-- ==== Sys2Proof/Word.lean ====
section
/-! DEFINITION. The words, ticks, addresses and indexes of the AW3206, and the two-valued names that commands,
records and images share. -/

namespace Sys2Proof

/-- A 16-bit word of a request or reply frame (chapter 11). -/
abbrev Word := BitVec 16

/-- An 8-bit field: a command code, a status code or a generation (chapter 11, R1). -/
abbrev Byte := BitVec 8

/-- A tick of the lease clock, a count that wraps from 4,294,967,295 to 0 (R76). -/
abbrev Tick := BitVec 32

/-- A byte address in the 16 MiB shared space (terms, "Address"). -/
abbrev Address := BitVec 24

/-- A bus master, 0 to 5; master 0 is the supervisor (terms, "Master"). -/
abbrev Master := Fin 6

/-- The index of a window record, 0 to 63 (R1). -/
abbrev RecIdx := Fin 64

/-- The number of a store slot, 0 to 11 (R123). -/
abbrev SlotIdx := Fin 12

/-- The id of a watch record, 0 to 7 (R108). -/
abbrev WatchIdx := Fin 8

/-- The mode of a window or of a claim (R2). -/
inductive AccessMode where
  | read
  | write
  deriving DecidableEq, Repr

/-- The kind of a checked access (R97, signal CWR). -/
inductive AccessKind where
  | read
  | write
  deriving DecidableEq, Repr

end Sys2Proof
end

