-- ==== Sys2Proof/Config.lean ====
section
/-! DEFINITION. The sizes and limits the manual fixes, and the one free value it leaves open: how the check value
of a slot image is worked out from the image's fields (R124 gives no formula). -/

namespace Sys2Proof.Config

/-- Granules of the shared space (terms, "Granule"). -/
def granules : Nat := 16384

/-- The highest number of windows of one master (R15). -/
def maxWindows : Nat := 24

/-- The highest number of waiter entries in the queue (R48). -/
def maxWaiters : Nat := 16

/-- The highest number of waiter entries of one master (R48). -/
def maxWaitersPerMaster : Nat := 4

/-- The highest number of records in a failure list (R58). -/
def maxFailures : Nat := 4

/-- The highest number of ARMED watches of one master (R109). -/
def maxWatchesPerMaster : Nat := 3

/-- The longest lease, period, wait limit and grace, in ticks (R26, R33, R65, R86). -/
def maxTicks : Nat := 60000

/-- The shortest keepalive period, in ticks (R65). -/
def minPeriod : Nat := 10

/-- The highest slot allowance (R83). -/
def maxAllowance : Nat := 12

/-- The highest band value (R137). -/
def maxBand : Nat := 64

/-- Words of a frame that the frame buffer stores (R158). -/
def bufferWords : Nat := 10

/-- FREE VALUE (log entry 1). The check value of an image as a function of its owner, base, size and mode (R124):
the manual says that the engine works it out from those four fields and gives neither formula nor width.
A mode of `none` stands for a cell pattern that is neither READ nor WRITE. -/
opaque imageCheck (owner base size : Nat) (mode : Option AccessMode) : Nat

end Sys2Proof.Config
end

