-- ==== Sys2Proof/Machine/Operands.lean ====
section
/-! DEFINITION. The operand words of requests: their fields, their encodings and the format tests of R162. All of it
reads the request words alone. -/

namespace Sys2Proof.Machine

/-- The generation in a handle word, bits 15 to 8 (section 11.4). -/
def handleGeneration (h : Word) : Byte := h.extractLsb' 8 8

/-- The record index in a handle word, bits 5 to 0 (section 11.4). -/
def handleIndex (h : Word) : RecIdx := ⟨h.toNat % 64, Nat.mod_lt _ (by decide)⟩

/-- The handle word of a record index and a generation (section 11.4). -/
def handleWord (i : RecIdx) (g : Byte) : Word := BitVec.ofNat 16 (256 * g.toNat + i.val)

/-- A handle word keeps its encoding: bits 7 and 6 zero and a generation that is not 0 (R9, R162). -/
def handleFormatOk (h : Word) : Bool := h.extractLsb' 6 2 == 0 && handleGeneration h != 0

/-- A ticket operand keeps its encoding: it is not 0 (R59, R162). -/
def ticketFormatOk (t : Word) : Bool := t != 0

/-- The mode code of a CLAIM's options word, bits 1 to 0: 1 READ, 2 WRITE (section 11.4). -/
def optionsMode (w : Word) : Option AccessMode :=
  if w.extractLsb' 0 2 = 1 then some .read else if w.extractLsb' 0 2 = 2 then some .write else none

/-- The wait code of a CLAIM's options word, bits 3 to 2: 1 NOWAIT (`false`), 2 WAIT (`true`) (section 11.4). -/
def optionsWait (w : Word) : Option Bool :=
  if w.extractLsb' 2 2 = 1 then some false else if w.extractLsb' 2 2 = 2 then some true else none

/-- A CLAIM's options word keeps its encoding (R162). -/
def optionsFormatOk (w : Word) : Bool :=
  (optionsMode w).isSome && (optionsWait w).isSome && w.extractLsb' 4 12 == 0

/-- The kinds of access a watch counts (R108). -/
inductive WatchKinds where
  | reads
  | writes
  | both
  deriving DecidableEq, Repr

/-- The kinds word of WATCH SET: 1 READS, 2 WRITES, 3 BOTH (section 11.4). -/
def kindsOf (w : Word) : Option WatchKinds :=
  if w = 1 then some .reads else if w = 2 then some .writes else if w = 3 then some .both else none

/-- The code of a watch's kinds in the watch record (section 11.4). -/
def WatchKinds.code : WatchKinds → Nat
  | .reads => 1
  | .writes => 2
  | .both => 3

/-- A kinds word keeps its encoding (R109, R162). -/
def kindsFormatOk (w : Word) : Bool := (kindsOf w).isSome

/-- A flag mask keeps its encoding: bits 15 to 12 are zero (R118, R162). -/
def maskFormatOk (w : Word) : Bool := w.extractLsb' 12 4 == 0

/-- The twelve flag bits of a flag mask (section 11.4). -/
def maskFlags (w : Word) : BitVec 12 := w.extractLsb' 0 12

/-- A line-enable word keeps its encoding: it is 0 or 1 (R118, R162). -/
def lineFormatOk (w : Word) : Bool := w == 0 || w == 1

/-- The master a target word names, if it is 0 to 5 (R45, R83, R93). -/
def masterOf (w : Word) : Option Master := if h : w.toNat < 6 then some ⟨w.toNat, h⟩ else none

/-- The watch id a word names, if it is 0 to 7 (R110). -/
def watchOf (w : Word) : Option WatchIdx := if h : w.toNat < 8 then some ⟨w.toNat, h⟩ else none

/-- The slot a word names, if it is 0 to 11 (R155). -/
def slotOf (w : Word) : Option SlotIdx := if h : w.toNat < 12 then some ⟨w.toNat, h⟩ else none

/-- The master a check-port code names; 6 and 7 name none (R97). -/
def checkMaster (c : BitVec 3) : Option Master := if h : c.toNat < 6 then some ⟨c.toNat, h⟩ else none

/-- The kind of access the level of CWR tells (R97). -/
def accessKind (cwr : Bool) : AccessKind := if cwr then .write else .read

/-- The complement of the 16-bit sum of words: the check word of requests and replies (sections 11.2, R164). -/
def checkWord (ws : List Word) : Word := ~~~ (ws.foldl (· + ·) 0)

/-- The bits of a word, most significant first (R157). -/
def wordBits (w : Word) : List Bool := (List.range 16).map fun k => w.getLsbD (15 - k)

/-- The words the sampled bits complete, sixteen bits each and most significant first; the bits of an incomplete last
word are discarded (R158). `count` bits with the value `sofar` are already in hand. -/
def wordsFrom : List Bool → (count sofar : Nat) → List Word
  | [], _, _ => []
  | b :: bs, count, sofar =>
    if count = 15 then BitVec.ofNat 16 (2 * sofar + b.toNat) :: wordsFrom bs 0 0
    else wordsFrom bs (count + 1) (2 * sofar + b.toNat)

/-- The words of a frame's sampled bits (R158). -/
def wordsOfBits (bits : List Bool) : List Word := wordsFrom bits 0 0

/-- The first `n` levels LDO is driven to in a frame: the bits of the reply's words, zeros after them (R159). LSEL's
fall drives the first of them and each LCLK falling edge the next, so `n - 1` pulses bring `n` levels (R157). -/
def shiftedOut (reply : List Word) (n : Nat) : List Bool :=
  (reply.flatMap wordBits ++ List.replicate n false).take n

/-- The first bit of the words LDO shifts out, 0 when there are none: the level LSEL's fall drives (R157, R159). -/
def firstBit (reply : List Word) : Bool := (reply.headD 0).getLsbD 15

end Sys2Proof.Machine
end

