-- ==== Sys2Proof/Syntax.lean ====
section
/-! DEFINITION. The commands of the block: one constructor for each row of spec/opcode_table.json, with its
operands. A request carries the master whose link brought it and its operand words as they stand in the frame; an
event carries what the outside world brings with it. -/

namespace Sys2Proof

/-- What a VALID slot cell holds (R124), as a read of the cell finds it. Retention can alter any field (R123), so
the owner, base and size may be out of range and the mode may be neither READ nor WRITE (`none`). -/
structure Image where
  owner : Nat
  base : Nat
  size : Nat
  mode : Option AccessMode
  check : Nat
  deriving DecidableEq, Repr

/-- What the LCLK pulses of a frame bring a link unit: the bits sampled from LDI at the rising edges, oldest first, from
LSEL's fall to its rise, or to the start that voided the frame; and the number of pulses after such a start, whose bits
the unit does not see (R157, R158, R163). -/
structure Clocked where
  bits : List Bool
  ignored : Nat
  deriving DecidableEq, Repr

/-- The commands: requests taken from a link, and events (spec/opcode_table.json, row by row). -/
inductive Instr where
  /-- NOP (R71). -/
  | nop (m : Master)
  /-- STATUS (R156). -/
  | status (m : Master)
  /-- OPEN (R69): keepalive period. -/
  | openSession (m : Master) (period : Word)
  /-- CLOSE (R70). -/
  | close (m : Master)
  /-- KEEPALIVE (R71). -/
  | keepalive (m : Master)
  /-- CLAIM (R26 to R31): base, size, options, lease, wait limit. -/
  | claim (m : Master) (base size options lease limit : Word)
  /-- RENEW (R33, R34): handle, ticks. -/
  | renew (m : Master) (handle ticks : Word)
  /-- RELEASE (R36): handle. -/
  | release (m : Master) (handle : Word)
  /-- DOWNGRADE (R38): handle. -/
  | downgrade (m : Master) (handle : Word)
  /-- UPGRADE (R40): handle. -/
  | upgrade (m : Master) (handle : Word)
  /-- QUERY (R43): handle. -/
  | query (m : Master) (handle : Word)
  /-- LIST (R45, R46): starting index, target master. -/
  | list (m : Master) (start target : Word)
  /-- CANCEL (R60): ticket. -/
  | cancel (m : Master) (ticket : Word)
  /-- TICKET (R61): ticket. -/
  | ticket (m : Master) (ticket : Word)
  /-- STAND (R133, R134): handle. -/
  | stand (m : Master) (handle : Word)
  /-- UNSTAND (R136): handle. -/
  | unstand (m : Master) (handle : Word)
  /-- WATCH SET (R109): base, size, kinds. -/
  | watchSet (m : Master) (base size kinds : Word)
  /-- WATCH CLEAR (R110): watch id. -/
  | watchClear (m : Master) (id : Word)
  /-- WATCH READ (R111): watch id. -/
  | watchRead (m : Master) (id : Word)
  /-- NOTICE READ (R119). -/
  | noticeRead (m : Master)
  /-- NOTICE ACK (R120): flag mask. -/
  | noticeAck (m : Master) (mask : Word)
  /-- NOTICE ENABLE (R121): flag mask, line enable. -/
  | noticeEnable (m : Master) (mask line : Word)
  /-- QUOTA (R83, R84): target master, granule quota, slot allowance. -/
  | quota (m : Master) (target quota allowance : Word)
  /-- REVOKE (R86 to R89): handle, grace. -/
  | revoke (m : Master) (handle grace : Word)
  /-- EVICT (R93): target master. -/
  | evict (m : Master) (target : Word)
  /-- RESTART (R96). -/
  | restart (m : Master)
  /-- BAND (R139): value, grace. -/
  | band (m : Master) (value grace : Word)
  /-- PURGE (R155): slot. -/
  | purge (m : Master) (slot : Word)
  /-- FRAME_END (R158 to R161): LSEL of this link rises, after `ldi` was clocked. -/
  | frameEnd (link : Master) (ldi : Clocked)
  /-- CHECK_STROBE (R98, R101): the levels of CMAS, CADR, CSPAN and CWR with CSTB asserted. -/
  | checkStrobe (cmas : BitVec 3) (cadr : Address) (cspan : BitVec 6) (cwr : Bool)
  /-- CHECK_RELEASE (R98): CSTB is deasserted. -/
  | checkRelease
  /-- TICK (R76): one tick of the lease clock ends. -/
  | tick
  /-- LAPSE (R73): the deadline of this master's session is reached. -/
  | lapse (m : Master)
  /-- LEASE_EXPIRY (R78): the lease deadline of this record is reached. -/
  | leaseExpiry (i : RecIdx)
  /-- LEASELOW_WARNING (R79): this record is at its warning margin. -/
  | leaselowWarning (i : RecIdx)
  /-- DRAIN_END (R91): the drain deadline of this record is reached. -/
  | drainEnd (i : RecIdx)
  /-- WAIT_EXPIRY (R57): the wait deadline of this master's entry with this ticket is reached. -/
  | waitExpiry (m : Master) (ticket : Word)
  /-- SLOT_ERASE_DONE (R129): the erase phase of the slot write in progress completes. -/
  | slotEraseDone
  /-- SLOT_PROGRAM_DONE (R129): the program phase of the slot write in progress completes. -/
  | slotProgramDone
  /-- CLEAR_DONE (R130): the erase of the clear in progress completes. -/
  | clearDone
  /-- BAND_ERASE_DONE (R142): the erase of the band cell completes. -/
  | bandEraseDone
  /-- BAND_PROGRAM_DONE (R142, R143): the program of the band cell completes. -/
  | bandProgramDone
  /-- BAND_CELL_READ (R149): the start-up read of the band cell completes. -/
  | bandCellRead
  /-- SLOT_READ (R150, R152): the start-up read of the slot being read completes; `maint` is the level of the MAINT
  input at that moment. -/
  | slotRead (maint : Bool)
  /-- POWER_START (R147): the supply rises to its operating level. -/
  | powerStart
  /-- POWER_ON_HOLD_END (R147): the power-on hold ends. -/
  | powerOnHoldEnd
  /-- LINE_START (R147): RESET# is asserted. -/
  | lineStart
  /-- RESET_RELEASE (R147): RESET# is released. -/
  | resetRelease
  /-- SUPPLY_LOSS (R132): the supply is lost. -/
  | supplyLoss
  /-- LSEL_FALL (R158): LSEL of this link falls. -/
  | lselFall (link : Master)
  /-- LOSS_OF_RETENTION (R123): the image in this slot's cell is altered; `image` is what the cell then holds. -/
  | lossOfRetention (slot : SlotIdx) (image : Image)
  deriving DecidableEq, Repr

end Sys2Proof
end

