-- ==== Sys2Proof/WellFormed.lean ====
section
/-! DEFINITION. When a command is well formed: a request is one that passes the format tests of R162 on its operand
words, "a frame that passes step 6 is a request" (R161). A request that fails them is answered BAD_OPERAND; an event
has no format to break. -/

namespace Sys2Proof

open Machine

/-- The format tests of R162 that concern a command's operands. -/
def Instr.wellFormed : Instr → Bool
  | .nop _ | .status _ | .openSession _ _ | .close _ | .keepalive _ => true
  | .claim _ _ _ options _ _ => optionsFormatOk options
  | .renew _ h _ | .release _ h | .downgrade _ h | .upgrade _ h | .query _ h => handleFormatOk h
  | .list _ _ _ => true
  | .cancel _ t | .ticket _ t => ticketFormatOk t
  | .stand _ h | .unstand _ h => handleFormatOk h
  | .watchSet _ _ _ kinds => kindsFormatOk kinds
  | .watchClear _ _ | .watchRead _ _ | .noticeRead _ => true
  | .noticeAck _ mask => maskFormatOk mask
  | .noticeEnable _ mask line => maskFormatOk mask && lineFormatOk line
  | .quota _ _ _ _ => true
  | .revoke _ h _ => handleFormatOk h
  | .evict _ _ | .restart _ | .band _ _ _ | .purge _ _ => true
  | .frameEnd _ _ | .checkStrobe _ _ _ _ | .checkRelease | .tick | .lapse _ | .leaseExpiry _ => true
  | .leaselowWarning _ | .drainEnd _ | .waitExpiry _ _ | .slotEraseDone | .slotProgramDone | .clearDone => true
  | .bandEraseDone | .bandProgramDone | .bandCellRead | .slotRead _ | .powerStart | .powerOnHoldEnd => true
  | .lineStart | .resetRelease | .supplyLoss | .lselFall _ | .lossOfRetention _ _ => true

end Sys2Proof
end

