-- ==== Sys2Proof/Decode.lean ====
section
/-! DEFINITION. Commands spelled by the table's bits: no row of spec/opcode_table.json gives any, so no word spells a
command (log entry 25). The frames of chapter 11 are parsed in Machine/Frames.lean. -/

namespace Sys2Proof

/-- The command a table word spells: none, since no row of the table gives bits. -/
def decodeTableWord (_nbits _w : Nat) : Option Instr := none

end Sys2Proof
end

