-- ==== Sys2Proof/Machine/State.lean ====
section
/-! DEFINITION. The state of the block, record by record and block by block as the manual's block overview lists them,
and the state right after a POWER start began on a part that was never written. -/

namespace Sys2Proof.Machine

/-- What stops the block: the manual names nothing that does, so there is no fault (log entry 5, safe). -/
inductive Fault : Type
  deriving DecidableEq, Repr

/-- Why a command has no meaning. -/
inductive Refusal where
  /-- Raised by an arm of `exec` whose command has no meaning yet; no arm does. Safe: the model stops. -/
  | notModelled (mnemonic : String)
  deriving DecidableEq, Repr

/-! ### The window table (chapter 1) -/

/-- The causes kept in a FREE record (terms, "Retire"; R18). -/
inductive RetireCause where
  | released
  | expired
  | lapsed
  | closed
  | evicted
  | revoked
  | banded
  | purged
  deriving DecidableEq, Repr

/-- The causes of a drain (R4). -/
inductive DrainCause where
  | revoked
  | banded
  deriving DecidableEq, Repr

/-- The lease fields of a TIMED window (R3). -/
structure Lease where
  length : Nat
  deadline : Tick
  warned : Bool
  deriving DecidableEq, Repr

/-- The lease kind with the fields it carries (R3). -/
inductive LeaseKind where
  | session
  | timed (lease : Lease)
  | standing (slot : SlotIdx)
  deriving DecidableEq, Repr

/-- The drain fields of a DRAINING window (R4). -/
structure Drain where
  deadline : Tick
  cause : DrainCause
  deriving DecidableEq, Repr

/-- A range of granules with a mode: what the conflict relation compares (R12). -/
structure Region where
  base : Nat
  size : Nat
  mode : AccessMode
  deriving DecidableEq, Repr

/-- A window in force. It is DRAINING when it carries drain fields and LIVE when it carries none (R4). -/
structure Window where
  owner : Master
  base : Nat
  size : Nat
  mode : AccessMode
  kind : LeaseKind
  drain : Option Drain
  originTicket : Word
  touched : Bool
  deriving DecidableEq, Repr

/-- What a record holds: no window, with the cause its last window was retired with, or a window (R1). -/
inductive Holding where
  | free (cause : Option RetireCause)
  | held (w : Window)
  deriving DecidableEq, Repr

/-- A window record (R1). -/
structure WindowRecord where
  generation : Byte
  holding : Holding
  deriving DecidableEq, Repr

/-- The tallies the window table keeps for a master (R14). -/
structure Tally where
  usage : Nat
  windows : Nat
  deriving DecidableEq, Repr

/-! ### The session table (chapter 4) -/

/-- The state of a session, with the fields present while it is OPEN (R65). -/
inductive SessionState where
  | closed
  | opened (period : Nat) (deadline : Tick)
  | lapsed
  deriving DecidableEq, Repr

/-- A session record (R65). -/
structure Session where
  state : SessionState
  quota : Nat
  allowance : Nat
  ticketCounter : Word
  deriving DecidableEq, Repr

/-! ### The wait queue (chapter 3) -/

/-- A waiter entry (R47); `length` is none for a claim of kind SESSION. -/
structure Waiter where
  master : Master
  ticket : Word
  base : Nat
  size : Nat
  mode : AccessMode
  length : Option Nat
  deadline : Option Tick
  deriving DecidableEq, Repr

/-- The causes of a WAITFAIL (R58). -/
inductive FailCause where
  | timeout
  | quota
  | limit
  | banded
  | evicted
  deriving DecidableEq, Repr

/-- A record of a failure list (R58). -/
structure Failure where
  ticket : Word
  cause : FailCause
  deriving DecidableEq, Repr

/-! ### The check unit and the watch list (chapter 6) -/

/-- The reasons of a DENY (R101). -/
inductive DenyReason where
  | notReady
  | noMaster
  | maint
  | range
  | reserved
  | readOnly
  | split
  | noWindow
  deriving DecidableEq, Repr

/-- The inputs of a check, as sampled (R98). -/
structure Access where
  cmas : BitVec 3
  cadr : Address
  cspan : BitVec 6
  cwr : Bool
  deriving DecidableEq, Repr

/-- The state of the handshake (R98). -/
inductive CheckPhase where
  | ready
  | answering (access : Access)
  deriving DecidableEq, Repr

/-- The outputs of the check port (R97). -/
structure CheckOut where
  cack : Bool
  callow : Bool
  cwhy : BitVec 3
  crec : BitVec 6
  deriving DecidableEq, Repr

/-- The check unit. -/
structure CheckUnit where
  phase : CheckPhase
  out : CheckOut
  deriving DecidableEq, Repr

/-- The last hit of a watch: hitter, address, kind and verdict, `none` for ALLOW (R108). -/
structure Hit where
  hitter : Master
  address : Address
  kind : AccessKind
  denied : Option DenyReason
  deriving DecidableEq, Repr

/-- An ARMED watch record (R108). -/
structure Watch where
  owner : Master
  base : Nat
  size : Nat
  kinds : WatchKinds
  hits : Nat
  last : Option Hit
  deriving DecidableEq, Repr

/-- A watch record (R108). -/
inductive WatchRecord where
  | free
  | armed (w : Watch)
  deriving DecidableEq, Repr

/-! ### The notice unit (chapter 7) -/

/-- A capture of a denied check (R106). -/
structure Capture where
  address : Address
  span : Nat
  kind : AccessKind
  reason : DenyReason
  deriving DecidableEq, Repr

/-- A notice record and the NOTE line it drives (R115, R117). -/
structure Notice where
  flags : BitVec 12
  enables : BitVec 12
  lineEnable : Bool
  latch : Option Capture
  more : Bool
  line : Bool
  deriving DecidableEq, Repr

/-! ### The slot store (chapter 8) -/

/-- The content of a slot (R123). -/
inductive SlotContent where
  | blank
  | valid (image : Image)
  | damaged
  deriving DecidableEq, Repr

/-- The work mark of a slot (R126). -/
inductive WorkMark where
  | none
  | writeDue
  | clearDue
  deriving DecidableEq, Repr

/-- A slot; whether the engine is on it is held in the engine (R123). -/
structure Slot where
  content : SlotContent
  binding : Option RecIdx
  mark : WorkMark
  deriving DecidableEq, Repr

/-- A cell of the start-up read (R149). -/
inductive Cell where
  | band
  | slot (k : SlotIdx)
  deriving DecidableEq, Repr

/-- The store engine: its state, target and what it captured (R127, R128, R130, R142, R149). A write keeps the record
its slot was bound to when it began (R129). -/
inductive Engine where
  | idle
  | reading (cell : Cell)
  | erasingForWrite (k : SlotIdx) (image : Image) (window : RecIdx)
  | programmingSlot (k : SlotIdx) (image : Image) (window : RecIdx)
  | erasingForClear (k : SlotIdx)
  | erasingBand (value : Nat)
  | programmingBand (value : Nat)
  deriving DecidableEq, Repr

/-! ### Band control (chapter 9) -/

/-- The content of the band cell (R137). -/
inductive BandCell where
  | valid (value : Nat)
  | damaged
  deriving DecidableEq, Repr

/-- Band control (R137). -/
structure BandControl where
  committed : Nat
  pending : Option Nat
  cell : BandCell
  writeDue : Bool
  deriving DecidableEq, Repr

/-! ### Start-up control (chapter 10) -/

/-- The part mode (R147). -/
inductive PartMode where
  | starting
  | running
  | maintenance
  deriving DecidableEq, Repr

/-- The kinds of start, as the reset cause names them (R147). -/
inductive StartCause where
  | power
  | line
  | soft
  deriving DecidableEq, Repr

/-- Start-up control: part mode, reset cause, maintenance flag, restore report (R147, R153), and whether the power-on
hold is still running. -/
structure StartUp where
  mode : PartMode
  cause : StartCause
  maintenance : Bool
  damaged : BitVec 12
  rejected : BitVec 12
  bandDamaged : Bool
  hold : Bool
  deriving DecidableEq, Repr

/-- Levels the outside gives the part: the supply at its operating level, RESET# asserted, MAINT as last sampled, and
CSTB asserted (R97, R132, R147). -/
structure Pins where
  supply : Bool
  reset : Bool
  maint : Bool
  cstb : Bool
  deriving DecidableEq, Repr

/-! ### The link units (chapter 11) -/

/-- The reply statuses (section 11.4). -/
inductive Status where
  | ok
  | queued
  | granted
  | conflict
  | noSession
  | alreadyOpen
  | lapsed
  | badRange
  | reserved
  | quota
  | limit
  | tableFull
  | queueFull
  | stale
  | gone
  | notOwner
  | standing
  | notStanding
  | notTimed
  | draining
  | noSlot
  | allowance
  | inUse
  | narrow
  | privileged
  | notMaint
  | maintenance
  | notReady
  | noWatch
  | watchFull
  | badOperand
  | unknown
  | frameError
  deriving DecidableEq, Repr

/-- A reply: the status and the echoed command code of its header, and its result words. The result count and the
check word follow from these (R164). -/
structure Reply where
  status : Status
  echo : Byte
  results : List Word
  deriving DecidableEq, Repr

/-- The state of a link unit (R158). -/
inductive LinkPhase where
  | idle
  | receiving
  deriving DecidableEq, Repr

/-- A link unit (R157 to R159): its state, the frame buffer with the word count and whether some word after the tenth
was not 0x0000, the reply slot, and the words LSEL's last fall found in it for LDO to shift out. `ldo` is the level LDO
is driven to, none while it is left undriven. Of the frame that ended last, oldest first, `ldoBits` are all the levels
it was driven to, and `ldoRead` are the levels at the LCLK rising edges, the bits the master reads. `lselLow` tells the
level of LSEL. -/
structure Link where
  phase : LinkPhase
  buffer : List Word
  wordCount : Nat
  lateNonzero : Bool
  reply : Option Reply
  shiftOut : List Word
  ldo : Option Bool
  ldoBits : List Bool
  ldoRead : List Bool
  lselLow : Bool
  deriving DecidableEq, Repr

/-! ### The whole block -/

/-- The state of the block, and the queue of commands that are waiting, first in, first out. -/
structure State where
  links : Vector Link 6
  table : Vector WindowRecord 64
  tallies : Vector Tally 6
  sessions : Vector Session 6
  queue : List Waiter
  failures : Vector (List Failure) 6
  clock : Option Tick
  check : CheckUnit
  watches : Vector WatchRecord 8
  notices : Vector Notice 6
  slots : Vector Slot 12
  engine : Engine
  band : BandControl
  startUp : StartUp
  pins : Pins
  pending : List Instr
  deriving DecidableEq, Repr

/-! ### Start values -/

/-- A record as every start leaves it (R1). -/
def WindowRecord.atStart : WindowRecord := ⟨0, .free none⟩

/-- The tallies when a start begins (R14). -/
def Tally.atStart : Tally := ⟨0, 0⟩

/-- A session record as every start leaves it (R66). -/
def Session.atStart (m : Master) : Session :=
  if m = 0 then ⟨.closed, 16384, 12, 1⟩ else ⟨.closed, 4096, 0, 1⟩

/-- The check port's idle outputs (R97). -/
def CheckOut.idle : CheckOut := ⟨false, false, 0, 63⟩

/-- The check unit as every start leaves it (R99). -/
def CheckUnit.atStart : CheckUnit := ⟨.ready, .idle⟩

/-- A notice record as every start leaves it (R115). -/
def Notice.atStart : Notice := ⟨0, 0, false, none, false, false⟩

/-- The machine right after reset: a POWER start has begun on a part that was never written (R123, R137, R147), with
the power-on hold running. What the manual gives no value for, the committed band, the input levels and the links'
counters, is named in log entry 10 (DESIGN CHOICE, unsafe). -/
def State.reset : State where
  links := Vector.replicate 6 ⟨.idle, [], 0, false, none, [], none, [], [], false⟩
  table := Vector.replicate 64 .atStart
  tallies := Vector.replicate 6 .atStart
  sessions := Vector.ofFn Session.atStart
  queue := []
  failures := Vector.replicate 6 []
  clock := none
  check := .atStart
  watches := Vector.replicate 8 .free
  notices := Vector.replicate 6 .atStart
  slots := Vector.replicate 12 ⟨.blank, none, .none⟩
  engine := .idle
  band := ⟨0, none, .valid 0, false⟩
  startUp := ⟨.starting, .power, false, 0, 0, false, true⟩
  pins := ⟨true, false, false, false⟩
  pending := []

end Sys2Proof.Machine
end

