-- ==== Sys2Proof/Machine/Ops.lean ====
section
/-! DEFINITION. The named operations over the state: one reader and one writer for each piece of it, time, ranges,
searches of the window table, replies, and the frame every request runs in. -/

namespace Sys2Proof.Machine

/-! ### Readers and writers -/

/-- The link unit of a master (R158). -/
def State.link (s : State) (m : Master) : Link := s.links[m.val]
/-- Replace a link unit. -/
def State.setLink (s : State) (m : Master) (l : Link) : State := { s with links := s.links.set m.val l }
/-- A window record (R1). -/
def State.record (s : State) (i : RecIdx) : WindowRecord := s.table[i.val]
/-- Replace a window record. -/
def State.setRecord (s : State) (i : RecIdx) (r : WindowRecord) : State := { s with table := s.table.set i.val r }
/-- The tallies of a master (R14). -/
def State.tally (s : State) (m : Master) : Tally := s.tallies[m.val]
/-- Replace the tallies of a master. -/
def State.setTally (s : State) (m : Master) (t : Tally) : State := { s with tallies := s.tallies.set m.val t }
/-- The session record of a master (R65). -/
def State.session (s : State) (m : Master) : Session := s.sessions[m.val]
/-- Replace the session record of a master. -/
def State.setSession (s : State) (m : Master) (x : Session) : State := { s with sessions := s.sessions.set m.val x }
/-- Replace the wait queue (R47). -/
def State.setQueue (s : State) (q : List Waiter) : State := { s with queue := q }
/-- The failure list of a master (R58). -/
def State.failureList (s : State) (m : Master) : List Failure := s.failures[m.val]
/-- Replace the failure list of a master. -/
def State.setFailureList (s : State) (m : Master) (l : List Failure) : State :=
  { s with failures := s.failures.set m.val l }
/-- Replace the current tick (R76). -/
def State.setClock (s : State) (t : Option Tick) : State := { s with clock := t }
/-- Replace the check unit (R98). -/
def State.setCheck (s : State) (c : CheckUnit) : State := { s with check := c }
/-- A watch record (R108). -/
def State.watch (s : State) (k : WatchIdx) : WatchRecord := s.watches[k.val]
/-- Replace a watch record. -/
def State.setWatch (s : State) (k : WatchIdx) (w : WatchRecord) : State := { s with watches := s.watches.set k.val w }
/-- The notice record of a master (R115). -/
def State.notice (s : State) (m : Master) : Notice := s.notices[m.val]
/-- Replace the notice record of a master. -/
def State.setNotice (s : State) (m : Master) (n : Notice) : State := { s with notices := s.notices.set m.val n }
/-- A store slot (R123). -/
def State.slot (s : State) (k : SlotIdx) : Slot := s.slots[k.val]
/-- Replace a store slot. -/
def State.setSlot (s : State) (k : SlotIdx) (x : Slot) : State := { s with slots := s.slots.set k.val x }
/-- Replace the store engine (R127). -/
def State.setEngine (s : State) (e : Engine) : State := { s with engine := e }
/-- Replace band control (R137). -/
def State.setBand (s : State) (b : BandControl) : State := { s with band := b }
/-- Replace start-up control (R147). -/
def State.setStartUp (s : State) (u : StartUp) : State := { s with startUp := u }
/-- Replace the input levels. -/
def State.setPins (s : State) (p : Pins) : State := { s with pins := p }

/-- The part mode (R147). -/
abbrev State.mode (s : State) : PartMode := s.startUp.mode

/-! ### Time -/

/-- The current tick; while a start is in progress the clock holds none and nothing asks for it (R76, R148). -/
def State.now (s : State) : Tick := s.clock.getD 0

/-- The tick `n` ticks from now (R76). -/
def State.after (s : State) (n : Nat) : Tick := s.now + BitVec.ofNat 32 n

/-- The distance from now to a tick, counted round the 32-bit wrap (R76). -/
def State.ticksTo (s : State) (t : Tick) : Nat := (t - s.now).toNat

/-- The clock has reached this tick: it is running and stands at it (R77). -/
def State.reached (s : State) (t : Tick) : Bool := s.clock == some t

/-- The earlier of two ticks not yet passed (R4, R23). -/
def State.earlier (s : State) (a b : Tick) : Tick := if s.ticksTo a ≤ s.ticksTo b then a else b

/-! ### Ranges and the conflict relation (R12) -/

/-- Two ranges of granules share a granule (R12). -/
def rangesOverlap (b1 s1 b2 s2 : Nat) : Bool := decide (b1 < b2 + s2) && decide (b2 < b1 + s1)

/-- Two regions overlap (R12). -/
def Region.overlaps (a b : Region) : Bool := rangesOverlap a.base a.size b.base b.size

/-- Two regions conflict: they overlap and at least one is WRITE (R12). -/
def Region.conflicts (a b : Region) : Bool :=
  a.overlaps b && (decide (a.mode = .write) || decide (b.mode = .write))

/-- A range with this base overlaps a band of this value (R138). -/
def bandCovers (band base : Nat) : Bool := decide (base < 64 * band)

/-- The region of a window. -/
def Window.region (w : Window) : Region := ⟨w.base, w.size, w.mode⟩
/-- The region of a waiter. -/
def Waiter.region (e : Waiter) : Region := ⟨e.base, e.size, e.mode⟩

/-- A window of lease kind STANDING (R3). -/
def Window.isStanding (w : Window) : Bool := match w.kind with
  | .standing _ => true
  | .session | .timed _ => false

/-- A window in state LIVE (R4). -/
def Window.isLive (w : Window) : Bool := w.drain.isNone

/-! ### Searching the window table -/

/-- The window a record holds, LIVE or DRAINING (R1). -/
def WindowRecord.window (r : WindowRecord) : Option Window := match r.holding with
  | .held w => some w
  | .free _ => none

/-- A record in state FREE (R1). -/
def WindowRecord.isFree (r : WindowRecord) : Bool := r.window.isNone

/-- The lowest-indexed FREE record (R7). -/
def State.findFree (s : State) : Option RecIdx := (List.finRange 64).find? fun i => (s.record i).isFree

/-- The FREE record count (R1). -/
def State.freeCount (s : State) : Nat := ((List.finRange 64).filter fun i => (s.record i).isFree).length

/-- The lowest-indexed LIVE or DRAINING record whose window meets a test. -/
def State.lowest (s : State) (p : RecIdx → Window → Bool) : Option RecIdx :=
  (List.finRange 64).find? fun i => (s.record i).window.any (p i)

/-- The LIVE and DRAINING records whose windows meet a test, in index order (R20). -/
def State.recordsWhere (s : State) (p : RecIdx → Window → Bool) : List RecIdx :=
  (List.finRange 64).filter fun i => (s.record i).window.any (p i)

/-- The number of STANDING windows of a master, LIVE or DRAINING (R133). -/
def State.standingCount (s : State) (m : Master) : Nat :=
  (s.recordsWhere fun _ w => decide (w.owner = m) && w.isStanding).length

/-- The lowest-indexed record whose window conflicts with a region (R29, R30). -/
def State.blocker (s : State) (r : Region) : Option RecIdx := s.lowest fun _ w => r.conflicts w.region

/-- The effective claim band: the larger of the committed band and the pending band (R138). -/
def BandControl.effective (b : BandControl) : Nat := match b.pending with
  | none => b.committed
  | some v => max b.committed v

/-! ### Replies and the frame of a request -/

/-- The status codes (section 11.4). -/
def Status.code : Status → Nat
  | .ok => 0x01
  | .queued => 0x02
  | .granted => 0x03
  | .conflict => 0x04
  | .noSession => 0x05
  | .alreadyOpen => 0x06
  | .lapsed => 0x07
  | .badRange => 0x08
  | .reserved => 0x09
  | .quota => 0x0A
  | .limit => 0x0B
  | .tableFull => 0x0C
  | .queueFull => 0x0D
  | .stale => 0x0E
  | .gone => 0x0F
  | .notOwner => 0x10
  | .standing => 0x11
  | .notStanding => 0x12
  | .notTimed => 0x13
  | .draining => 0x14
  | .noSlot => 0x15
  | .allowance => 0x16
  | .inUse => 0x17
  | .narrow => 0x18
  | .privileged => 0x19
  | .notMaint => 0x1A
  | .maintenance => 0x1B
  | .notReady => 0x1C
  | .noWatch => 0x1D
  | .watchFull => 0x1E
  | .badOperand => 0x1F
  | .unknown => 0x20
  | .frameError => 0x21

/-- The words of a reply as LDO shifts them out: header, result count, results, check word (R159, R164). -/
def Reply.words (r : Reply) : List Word :=
  let body := BitVec.ofNat 16 (256 * r.status.code + r.echo.toNat) :: BitVec.ofNat 16 r.results.length :: r.results
  body ++ [checkWord body]

/-- Fill the reply slot of a master's link (R160, R161). -/
def State.placeReply (s : State) (m : Master) (r : Reply) : State :=
  s.setLink m { s.link m with reply := some r }

/-- Renew a session: an OPEN session's deadline becomes now plus its keepalive period (R67). -/
def State.renewSession (s : State) (m : Master) : State := match (s.session m).state with
  | .opened period _ => s.setSession m { s.session m with state := .opened period (s.after period) }
  | .closed | .lapsed => s

/-- What the block that takes a request answers: the state it leaves, the status and the results. -/
structure Answer where
  state : State
  status : Status
  results : List Word

/-- An answer OK. -/
def State.ok (s : State) (results : List Word) : Answer := ⟨s, .ok, results⟩

/-- A refusal, which leaves the state as it was (R25). -/
def State.refuse (s : State) (status : Status) : Answer := ⟨s, status, []⟩

/-- A word for a number of a reply. -/
def word (n : Nat) : Word := BitVec.ofNat 16 n

/-- A request from a master: its OPEN session is renewed first (R67), the format tests answer BAD_OPERAND (R162), the
owning block decides the rest, and the reply goes into the link's reply slot in the same event (R161). -/
def serve (m : Master) (code : Byte) (formatOk : Bool) (body : State → Answer) (s : State) : State :=
  let renewed := s.renewSession m
  let answer := if formatOk then body renewed else renewed.refuse .badOperand
  answer.state.placeReply m ⟨answer.status, code, answer.results⟩

/-- The part-mode tests: NOT_READY in STARTING, MAINTENANCE for masters 1 to 5 in MAINTENANCE (R24, R82, R109). -/
def State.partGate (s : State) (m : Master) : Option Status := match s.mode with
  | .starting => some .notReady
  | .maintenance => if m = 0 then none else some .maintenance
  | .running => none

/-- The session test: NO_SESSION or LAPSED unless the session is OPEN (R68). -/
def State.sessionGate (s : State) (m : Master) : Option Status := match (s.session m).state with
  | .closed => some .noSession
  | .lapsed => some .lapsed
  | .opened _ _ => none

/-- The part-mode tests, then the session test (R24, R59, R109, R133). -/
def State.openGate (s : State) (m : Master) : Option Status := match s.partGate m with
  | some st => some st
  | none => s.sessionGate m

/-- Steps 1 to 4 of R82: the part-mode tests, PRIVILEGED for masters other than 0, the session test. -/
def State.supervisorGate (s : State) (m : Master) : Option Status := match s.partGate m with
  | some st => some st
  | none => if m = 0 then s.sessionGate m else some .privileged

/-- Only the first test: NOT_READY in STARTING (R118, R156). -/
def State.readyGate (s : State) : Option Status := match s.mode with
  | .starting => some .notReady
  | .running | .maintenance => none

/-- A refusal if a gate gives one, else the rest. -/
def State.gated (s : State) (gate : Option Status) (rest : Answer) : Answer := match gate with
  | some st => s.refuse st
  | none => rest

/-! ### The outcome of a command -/

/-- A command has its effect while the supply is at its operating level; without supply the part takes nothing (log
entry 12). No command stops the block. -/
def whenPowered (f : State → State) (s : State) : Host.Outcome State Fault Refusal :=
  if s.pins.supply then .next (f s) else .next s

end Sys2Proof.Machine
end

