-- ==== Sys2Proof/Machine/Flags.lean ====
section
/-! DEFINITION. The notice unit: the twelve flags, raising one, the NOTE lines and the deny latch (chapter 7, R106). -/

namespace Sys2Proof.Machine

/-- The notice flags (R115). -/
inductive Flag where
  | grant
  | waitfail
  | expired
  | leaselow
  | revoking
  | retired
  | denied
  | watch
  | stored
  | lapsed
  | peerlapse
  | startloss
  deriving DecidableEq, Repr

/-- The bit of a flag in a flag mask (section 11.4). -/
def Flag.bit : Flag → Nat
  | .grant => 0
  | .waitfail => 1
  | .expired => 2
  | .leaselow => 3
  | .revoking => 4
  | .retired => 5
  | .denied => 6
  | .watch => 7
  | .stored => 8
  | .lapsed => 9
  | .peerlapse => 10
  | .startloss => 11

/-- The mask that names one flag (section 11.4). -/
def Flag.mask (f : Flag) : BitVec 12 := BitVec.ofNat 12 (2 ^ f.bit)

/-- A flag is set in a record. -/
def Notice.has (n : Notice) (f : Flag) : Bool := n.flags.getLsbD f.bit

/-- The level of a NOTE line: the part is RUNNING or in MAINTENANCE, the line enable is set, and some flag is set
whose enable is set (R117). -/
def Notice.level (n : Notice) (mode : PartMode) : Bool :=
  decide (mode ≠ .starting) && n.lineEnable && (n.flags &&& n.enables) != 0

/-- Recompute the NOTE line of a record (R117). -/
def Notice.refresh (n : Notice) (mode : PartMode) : Notice := { n with line := n.level mode }

/-- Raise a flag for a master: the flag is set, and the line follows (R116, R117). -/
def State.raise (s : State) (m : Master) (f : Flag) : State :=
  let n := s.notice m
  s.setNotice m (Notice.refresh { n with flags := n.flags ||| f.mask } s.mode)

/-- Hand a capture to a master's deny latch: it fills an empty latch and raises DENIED, or sets the more mark of a full
one (R106). -/
def State.capture (s : State) (m : Master) (c : Capture) : State := match (s.notice m).latch with
  | none => (s.setNotice m { s.notice m with latch := some c }).raise m .denied
  | some _ => s.setNotice m { s.notice m with more := true }

/-- The code of a deny reason, as CWHY carries it (R102). -/
def DenyReason.code : DenyReason → Nat
  | .notReady => 0
  | .noMaster => 1
  | .maint => 2
  | .range => 3
  | .reserved => 4
  | .readOnly => 5
  | .split => 6
  | .noWindow => 7

end Sys2Proof.Machine
end

