-- ==== Sys2Proof/Machine/Watches.lean ====
section
/-! DEFINITION. Watches: WATCH SET, WATCH CLEAR, WATCH READ (section 6.4). -/

namespace Sys2Proof.Machine

/-- The watch an ARMED record carries. -/
def WatchRecord.watch : WatchRecord → Option Watch
  | .armed w => some w
  | .free => none

/-- The number of ARMED records of a master (R109). -/
def State.watchCount (s : State) (m : Master) : Nat :=
  ((List.finRange 8).filter fun k => (s.watch k).watch.any fun w => decide (w.owner = m)).length

/-- The lowest-numbered FREE watch record (R109). -/
def State.findFreeWatch (s : State) : Option WatchIdx := (List.finRange 8).find? fun k => (s.watch k).watch.isNone

/-- WATCH SET from its step 4 on (R109). -/
def watchSetAnswer (m : Master) (base size : Nat) (kinds : WatchKinds) (s : State) : Answer :=
  if size = 0 ∨ Config.granules < base + size then s.refuse .badRange
  else if Config.maxWatchesPerMaster ≤ s.watchCount m then s.refuse .watchFull
  else match s.findFreeWatch with
    | none => s.refuse .watchFull
    | some k => (s.setWatch k (.armed ⟨m, base, size, kinds, 0, none⟩)).ok [word k.val]

/-- WATCH SET as its owning block takes it (R109). -/
def takeWatchSet (m : Master) (base size kinds : Word) : State → State :=
  serve m 0x28 (kindsFormatOk kinds) fun s =>
    s.gated (s.openGate m) (watchSetAnswer m base.toNat size.toNat ((kindsOf kinds).getD .both) s)

/-- WATCH SET (R109). -/
def execWatchSet (m : Master) (base size kinds : Word) (s : State) : Host.Outcome State Fault Refusal :=
  whenPowered (takeWatchSet m base size kinds) s

/-- Go on with the watch an id names, or answer BAD_OPERAND, NO_WATCH or NOT_OWNER (R110, R111). -/
def State.withWatch (s : State) (m : Master) (id : Word) (f : WatchIdx → Watch → Answer) : Answer :=
  match watchOf id with
  | none => s.refuse .badOperand
  | some k => match (s.watch k).watch with
    | none => s.refuse .noWatch
    | some w => if w.owner ≠ m then s.refuse .notOwner else f k w

/-- WATCH CLEAR as its owning block takes it (R110). -/
def takeWatchClear (m : Master) (id : Word) : State → State :=
  serve m 0x29 true fun s =>
    s.gated (s.openGate m) (s.withWatch m id fun k w => (s.setWatch k .free).ok [word w.hits])

/-- WATCH CLEAR (R110). -/
def execWatchClear (m : Master) (id : Word) (s : State) : Host.Outcome State Fault Refusal :=
  whenPowered (takeWatchClear m id) s

/-- The seven words of a watch record (R111, section 11.4). A record with no last hit has its present bit clear; that
the last hitter, address, reason, allowed and kind bits are then 0 is the model's choice (log entry 30), and so is that
the reason bits are 0 when the last hit was answered ALLOW (log entry 31). -/
def Watch.words (w : Watch) : List Word :=
  [ word (16 * w.kinds.code + w.owner.val),
    word w.base,
    word w.size,
    word (32768 * w.last.isSome.toNat + 256 * (w.last.elim 0 fun h => h.hitter.val) + w.hits),
    word (w.last.elim 0 fun h => h.address.toNat / 65536),
    word (w.last.elim 0 fun h => h.address.toNat % 65536),
    word (w.last.elim 0 fun h =>
      4 * h.denied.elim 0 DenyReason.code + 2 * h.denied.isNone.toNat + (decide (h.kind = .write)).toNat) ]

/-- WATCH READ as its owning block takes it: the record is reported, then its hit count set to 0 (R111). -/
def takeWatchRead (m : Master) (id : Word) : State → State :=
  serve m 0x2A true fun s =>
    s.gated (s.openGate m) (s.withWatch m id fun k w => (s.setWatch k (.armed { w with hits := 0 })).ok w.words)

/-- WATCH READ (R111). -/
def execWatchRead (m : Master) (id : Word) (s : State) : Host.Outcome State Fault Refusal :=
  whenPowered (takeWatchRead m id) s

end Sys2Proof.Machine
end

