-- ==== Sys2Proof/Machine/Slots.lean ====
section
/-! DEFINITION. The slots' marks and bindings, and the store engine's choice of a target (chapter 8, R39, R89, R19,
R142). The engine chooses once, at the end of the event that makes work due (log entry 15). -/

namespace Sys2Proof.Machine

/-- What the engine does to a slot it is on (R123). -/
inductive SlotWork where
  | write
  | clear
  deriving DecidableEq, Repr

/-- Whether the engine is on a slot, and for what (R123). -/
def Engine.workOn (e : Engine) (k : SlotIdx) : Option SlotWork := match e with
  | .erasingForWrite j _ _ => if j = k then some .write else none
  | .programmingSlot j _ _ => if j = k then some .write else none
  | .erasingForClear j => if j = k then some .clear else none
  | .idle | .reading _ | .erasingBand _ | .programmingBand _ => none

/-- A slot holds an image. -/
def SlotContent.isValid : SlotContent → Bool
  | .valid _ => true
  | .blank | .damaged => false

/-- The slot is BLANK, carries no mark and has no engine on it. -/
def Slot.untouched (x : Slot) (work : Option SlotWork) : Bool :=
  decide (x.content = .blank) && decide (x.mark = .none) && work.isNone

/-- A slot is free: unbound, unmarked, idle and BLANK (R123). -/
def Slot.isFree (x : Slot) (work : Option SlotWork) : Bool := x.binding.isNone && x.untouched work

/-- The mark of a mode change of the bound window (R39). -/
def Slot.markRewrite (x : Slot) (work : Option SlotWork) : Slot :=
  if x.mark = .clearDue ∨ work = some .clear then x
  else if x.mark = .writeDue ∨ work = some .write ∨ x.content.isValid then { x with mark := .writeDue }
  else x

/-- The mark of a revocation of the bound window with a grace of 1 or more (R89). -/
def Slot.markRevoked (x : Slot) (work : Option SlotWork) : Slot :=
  if x.mark = .clearDue ∨ work = some .clear ∨ x.untouched work then x else { x with mark := .clearDue }

/-- The release of a slot by the retire of its window (R19). -/
def Slot.release (x : Slot) (work : Option SlotWork) : Slot :=
  if x.untouched work then { x with binding := none } else { x with binding := none, mark := .clearDue }

/-- UNSTAND frees the slot: BLANK, idle, and unmarked or marked WRITE_DUE (R136). -/
def Slot.unstandFrees (x : Slot) (work : Option SlotWork) : Bool :=
  decide (x.content = .blank) && work.isNone && decide (x.mark ≠ .clearDue)

/-- The release of a slot by UNSTAND (R136). -/
def Slot.unstand (x : Slot) (work : Option SlotWork) : Slot :=
  if x.unstandFrees work then { x with binding := none, mark := .none }
  else { x with binding := none, mark := .clearDue }

/-- The mark of a PURGE (R155, step 2). -/
def Slot.markPurged (x : Slot) (work : Option SlotWork) : Slot :=
  if x.untouched work then x else { x with mark := .clearDue }

/-- Apply a change of a slot that depends on whether the engine is on it. -/
def State.changeSlot (s : State) (k : SlotIdx) (f : Slot → Option SlotWork → Slot) : State :=
  s.setSlot k (f (s.slot k) (s.engine.workOn k))

/-- The lowest-numbered free slot (R134). -/
def State.findFreeSlot (s : State) : Option SlotIdx :=
  (List.finRange 12).find? fun k => (s.slot k).isFree (s.engine.workOn k)

/-- The image of a window, with the check value the engine works out from it (R124, R128). -/
def Window.image (w : Window) : Image :=
  ⟨w.owner.val, w.base, w.size, some w.mode, Config.imageCheck w.owner.val w.base w.size (some w.mode)⟩

/-- The operation a slot's mark calls for: a write of the bound window's image, or a clear; none for a slot without a
mark, and none for a WRITE_DUE mark without a bound window, which no run has (R125). -/
def State.slotOperation (s : State) (k : SlotIdx) : Option Engine := match (s.slot k).mark with
  | .none => none
  | .clearDue => some (.erasingForClear k)
  | .writeDue => (s.slot k).binding.bind fun i => (s.record i).window.map fun w => .erasingForWrite k w.image i

/-- The lowest-numbered slot whose mark calls for an operation (R127). -/
def State.findMarked (s : State) : Option SlotIdx := (List.finRange 12).find? fun k => (s.slotOperation k).isSome

/-- The band-cell write that is due: its value is the pending band (R142). -/
def BandControl.writeValue (b : BandControl) : Option Nat := if b.writeDue then b.pending else none

/-- Begin a band-cell write: the flag becomes no, and the value is captured (R142). -/
def State.beginBandWrite (s : State) (value : Nat) : State :=
  (s.setBand { s.band with writeDue := false }).setEngine (.erasingBand value)

/-- Begin the operation of a slot: its mark is cleared, and the image of a write is captured (R128, R130). -/
def State.beginSlotOperation (s : State) (k : SlotIdx) (e : Engine) : State :=
  (s.setSlot k { s.slot k with mark := .none }).setEngine e

/-- The engine's choice: the band cell when its write is due, else the lowest-numbered marked slot; with nothing due it
stays IDLE (R127). -/
def State.chooseTarget (s : State) : State := match s.band.writeValue with
  | some value => s.beginBandWrite value
  | none => match s.findMarked with
    | none => s
    | some k => match s.slotOperation k with
      | some e => s.beginSlotOperation k e
      | none => s

/-- The engine chooses a target at the end of an event, when it is IDLE and the part is RUNNING or in MAINTENANCE
(R127). -/
def State.kickEngine (s : State) : State :=
  if s.mode ≠ .starting ∧ s.engine = .idle then s.chooseTarget else s

/-- An operation has ended: the engine becomes IDLE and chooses its next target (R127). -/
def State.endOperation (s : State) : State := (s.setEngine .idle).kickEngine

end Sys2Proof.Machine
end

