-- ==== Sys2Proof/Machine/Windows.lean ====
section
/-! DEFINITION. The window table's own operations: issue, retire, drains, handles and what a record reports
(chapter 1). -/

namespace Sys2Proof.Machine

/-! ### Issue and retire -/

/-- The generation after this one; after 255 comes 1 (R6). -/
def nextGeneration (g : Byte) : Byte := if g = 255 then 1 else g + 1

/-- A window in force is added to its owner's tallies (R14). -/
def Tally.add (t : Tally) (w : Window) : Tally :=
  ⟨if w.isStanding then t.usage else t.usage + w.size, t.windows + 1⟩

/-- A window is taken out of its owner's tallies (R14). -/
def Tally.remove (t : Tally) (w : Window) : Tally :=
  ⟨if w.isStanding then t.usage else t.usage - w.size, t.windows - 1⟩

/-- Issue a window into a FREE record: the generation is raised, the record becomes LIVE with the window's fields, and
the owner's tallies rise (R7). -/
def State.issue (s : State) (i : RecIdx) (w : Window) : State :=
  (s.setRecord i ⟨nextGeneration (s.record i).generation, .held w⟩).setTally w.owner ((s.tally w.owner).add w)

/-- The handle of the window a record holds. -/
def State.handle (s : State) (i : RecIdx) : Word := handleWord i (s.record i).generation

/-- Change the window a record holds, keeping its generation (R8). -/
def State.setWindow (s : State) (i : RecIdx) (w : Window) : State :=
  s.setRecord i ⟨(s.record i).generation, .held w⟩

/-- The notice a retire raises for the owner (R18). -/
def RetireCause.notice : RetireCause → Option Flag
  | .expired => some .expired
  | .evicted | .revoked | .banded | .purged => some .retired
  | .released | .lapsed | .closed => none

/-- Raise a notice if there is one. -/
def State.raiseIf (s : State) (m : Master) : Option Flag → State
  | some f => s.raise m f
  | none => s

/-- The slot a window is bound to is released when the window is retired (R19). -/
def State.releaseSlotOf (s : State) (w : Window) : State := match w.kind with
  | .standing k => s.changeSlot k Slot.release
  | .session | .timed _ => s

/-- The retire procedure, steps 1 to 4: the record becomes FREE with its generation and the cause kept, the tallies
fall, a STANDING window's slot is released, and the owner is noticed (R17). The grant scan of step 5 is run by the
event, after its last retire (R20). A FREE record is left as it is. -/
def State.retire (s : State) (cause : RetireCause) (i : RecIdx) : State := match (s.record i).window with
  | none => s
  | some w =>
    let freed := s.setRecord i ⟨(s.record i).generation, .free (some cause)⟩
    let tallied := freed.setTally w.owner ((freed.tally w.owner).remove w)
    (tallied.releaseSlotOf w).raiseIf w.owner cause.notice

/-- Retire several records, in the order given (R20). -/
def State.retireAll (s : State) (cause : RetireCause) (l : List RecIdx) : State :=
  l.foldl (fun t i => t.retire cause i) s

/-! ### Drains -/

/-- The cause a drain retires with (R91). -/
def DrainCause.retireCause : DrainCause → RetireCause
  | .revoked => .revoked
  | .banded => .banded

/-- The drain a request with a grace of 1 or more leaves: the deadline now + grace, or the earlier of that and the one
already held; the cause is the later request's (R4). -/
def State.drainOf (s : State) (w : Window) (cause : DrainCause) (grace : Nat) : Drain :=
  match w.drain with
  | none => ⟨s.after grace, cause⟩
  | some d => ⟨s.earlier d.deadline (s.after grace), cause⟩

/-- A drain request reaches a window: grace 0 retires it at once, a grace of 1 or more puts it into DRAINING, or keeps
it there, and raises REVOKING (R87, R88, R140). -/
def State.drainWindow (s : State) (cause : DrainCause) (grace : Nat) (i : RecIdx) : State :=
  match (s.record i).window with
  | none => s
  | some w =>
    if grace = 0 then s.retire cause.retireCause i
    else (s.setWindow i { w with drain := some (s.drainOf w cause grace) }).raise w.owner .revoking

/-! ### Handles -/

/-- What a handle resolves to (R10). -/
inductive Resolved where
  | stale
  | gone (cause : Option RetireCause)
  | held (w : Window)
  deriving DecidableEq, Repr

/-- Resolve a handle: the generations are compared, then the record's state (R10). -/
def State.resolve (s : State) (h : Word) : Resolved :=
  let r := s.record (handleIndex h)
  if r.generation = handleGeneration h then
    match r.holding with
    | .held w => .held w
    | .free cause => .gone cause
  else .stale

/-- The code of a retire cause (section 11.4). -/
def RetireCause.code : RetireCause → Nat
  | .released => 1
  | .expired => 2
  | .lapsed => 3
  | .closed => 4
  | .evicted => 5
  | .revoked => 6
  | .banded => 7
  | .purged => 8

/-- The code of a WAITFAIL cause (section 11.4). -/
def FailCause.code : FailCause → Nat
  | .timeout => 9
  | .quota => 10
  | .limit => 11
  | .banded => 7
  | .evicted => 5

/-- A GONE reply with a cause code, 0 for none (R164). -/
def State.gone (s : State) (code : Nat) : Answer := ⟨s, .gone, [word code]⟩

/-- Go on with the record and window a handle names, or answer STALE or GONE (R10). -/
def State.withHandle (s : State) (h : Word) (f : RecIdx → Window → Answer) : Answer := match s.resolve h with
  | .stale => s.refuse .stale
  | .gone cause => s.gone (cause.elim 0 RetireCause.code)
  | .held w => f (handleIndex h) w

/-! ### What a record reports -/

/-- The persistence of a standing window (R23). -/
inductive Persistence where
  | none
  | queued
  | writing
  | stored
  | clearing
  deriving DecidableEq, Repr

/-- The persistence code in a window summary (section 11.4). -/
def Persistence.code : Persistence → Nat
  | .none => 0
  | .queued => 1
  | .writing => 2
  | .stored => 3
  | .clearing => 4

/-- The persistence a bound slot shows, by the first row of R23's table that its condition matches. A bound slot that
matches no row (DAMAGED and idle) occurs in no run and reports none (log entry 17). -/
def Slot.persistence (x : Slot) (work : Option SlotWork) : Persistence :=
  if x.mark = .clearDue ∨ work = some .clear then .clearing
  else if x.untouched work ∧ x.binding.isSome then .clearing
  else if x.mark = .writeDue ∧ work = Option.none then .queued
  else if work = some .write then .writing
  else if x.content.isValid ∧ x.mark = .none then .stored
  else .none

/-- The persistence of a window: that of its slot, none for other lease kinds (R23). -/
def State.persistence (s : State) (w : Window) : Persistence := match w.kind with
  | .standing k => (s.slot k).persistence (s.engine.workOn k)
  | .session | .timed _ => .none

/-- The remaining ticks of a window, by R23's table. On the tick a deadline is reached, before its expiry is taken, the
table's difference is 0, though R23 and R44 say at least 1: the model's choice (log entry 28). -/
def State.remaining (s : State) (w : Window) : Nat := match w.kind, w.drain with
  | .timed l, none => s.ticksTo l.deadline
  | .timed l, some d => min (s.ticksTo l.deadline) (s.ticksTo d.deadline)
  | _, none => 0
  | _, some d => s.ticksTo d.deadline

/-- The lease kind code in a window summary (section 11.4). -/
def LeaseKind.code : LeaseKind → Nat
  | .session => 1
  | .timed _ => 2
  | .standing _ => 3

/-- The five words of a window summary (R23, section 11.4). -/
def State.summary (s : State) (i : RecIdx) (w : Window) : List Word :=
  [ handleWord i (s.record i).generation,
    word w.base,
    word w.size,
    word (256 * (s.persistence w).code + 128 * w.touched.toNat + 64 * w.drain.isSome.toNat + 16 * w.kind.code +
      8 * (decide (w.mode = .write)).toNat + w.owner.val),
    word (s.remaining w) ]

end Sys2Proof.Machine
end

