-- ==== Sys2Proof/Machine/Check.lean ====
section
/-! DEFINITION. The check unit: the verdict, its side effects and the handshake (chapter 6). -/

namespace Sys2Proof.Machine

/-! ### The span -/

/-- The first byte of a span (R100). -/
def Access.first (a : Access) : Nat := a.cadr.toNat

/-- The last byte of a span: CADR plus span minus 1, and the span is the code plus 1 (R100). -/
def Access.last (a : Access) : Nat := a.cadr.toNat + a.cspan.toNat

/-- The kind of an access. -/
def Access.kind (a : Access) : AccessKind := accessKind a.cwr

/-- The last byte of the address space (R100). -/
def topByte : Nat := 0xFFFFFF

/-- A range of granules wholly contains a span (R100). -/
def rangeContains (base size first last : Nat) : Bool :=
  decide (1024 * base ≤ first) && decide (last < 1024 * (base + size))

/-- A range of granules overlaps a span (R100, R112). -/
def rangeMeets (base size first last : Nat) : Bool :=
  decide (first < 1024 * (base + size)) && decide (1024 * base ≤ last)

/-! ### The verdict -/

/-- A verdict: a band read, an ALLOW through a window, or a DENY with its reason and the record CREC names, if any
(R101, R102). -/
inductive Verdict where
  | allowBand
  | allowWindow (i : RecIdx)
  | deny (reason : DenyReason) (named : Option RecIdx)
  deriving DecidableEq, Repr

/-- A mode is suitable for an access: any mode for a read, WRITE for a write (R101, step 6). -/
def modeSuits (mode : AccessMode) (cwr : Bool) : Bool := !cwr || decide (mode = .write)

/-- Step 6: the lowest window of the master that wholly contains the span with a suitable mode (R101). -/
def State.admitting (s : State) (m : Master) (a : Access) : Option RecIdx :=
  s.lowest fun _ w => decide (w.owner = m) && rangeContains w.base w.size a.first a.last && modeSuits w.mode a.cwr

/-- Step 8: the lowest READ window of the master that wholly contains the span (R101, R102). -/
def State.readOnlyOver (s : State) (m : Master) (a : Access) : Option RecIdx :=
  s.lowest fun _ w =>
    decide (w.owner = m) && rangeContains w.base w.size a.first a.last && decide (w.mode = .read)

/-- Step 9: the lowest window of the master that overlaps the span (R101, R102). -/
def State.meeting (s : State) (m : Master) (a : Access) : Option RecIdx :=
  s.lowest fun _ w => decide (w.owner = m) && rangeMeets w.base w.size a.first a.last

/-- Steps 8 to 10 of R101, for a check no window admits. -/
def State.denyByWindows (s : State) (m : Master) (a : Access) : Verdict :=
  match (if a.cwr then s.readOnlyOver m a else none), s.meeting m a with
  | some i, _ => .deny .readOnly (some i)
  | none, some i => .deny .split (some i)
  | none, none => .deny .noWindow none

/-- Steps 3 to 10 of R101, for a check of a master. -/
def State.verdictFor (s : State) (m : Master) (a : Access) : Verdict :=
  if s.mode = .maintenance ∧ m ≠ 0 then .deny .maint none
  else if topByte < a.last then .deny .range none
  else if a.cwr = false ∧ a.last < 65536 * s.band.committed then .allowBand
  else match s.admitting m a with
    | some i => .allowWindow i
    | none =>
      if a.cwr ∧ m ≠ 0 ∧ a.first < 65536 * s.band.committed then .deny .reserved none else s.denyByWindows m a

/-- The verdict of a check (R101). -/
def State.verdict (s : State) (a : Access) : Verdict :=
  if s.mode = .starting then .deny .notReady none
  else match checkMaster a.cmas with
    | none => .deny .noMaster none
    | some m => s.verdictFor m a

/-- The verdict on the port (R102). -/
def Verdict.out : Verdict → CheckOut
  | .allowBand => ⟨true, true, 0, 63⟩
  | .allowWindow i => ⟨true, true, 0, BitVec.ofNat 6 i.val⟩
  | .deny reason named => ⟨true, false, BitVec.ofNat 3 reason.code, BitVec.ofNat 6 (named.elim 63 Fin.val)⟩

/-- The reason of a verdict, none for an ALLOW. -/
def Verdict.reason : Verdict → Option DenyReason
  | .allowBand | .allowWindow _ => none
  | .deny reason _ => some reason

/-! ### Side effects -/

/-- An ALLOW through a window sets its touched flag (R16, R105). -/
def State.touch (s : State) (v : Verdict) : State := match v with
  | .allowWindow i => (s.record i).window.elim s fun w => s.setWindow i { w with touched := true }
  | .allowBand | .deny _ _ => s

/-- Whether a denial is captured: every reason but NOT_READY and NO_MASTER (R106). -/
def DenyReason.captured : DenyReason → Bool
  | .notReady | .noMaster => false
  | .maint | .range | .reserved | .readOnly | .split | .noWindow => true

/-- A denial of a master's check is handed to its deny latch (R106). -/
def State.captureDenial (s : State) (m : Master) (a : Access) (v : Verdict) : State := match v.reason with
  | none => s
  | some reason => if reason.captured then s.capture m ⟨a.cadr, a.cspan.toNat + 1, a.kind, reason⟩ else s

/-- The kinds of a watch select an access (R112). -/
def WatchKinds.selects : WatchKinds → AccessKind → Bool
  | .reads, .read | .writes, .write | .both, _ => true
  | .reads, .write | .writes, .read => false

/-- A check by a master is a hit on a watch; a span that runs past the top of the space is tested up to its top byte
(R112). -/
def Watch.hitBy (w : Watch) (m : Master) (a : Access) : Bool :=
  decide (m ≠ w.owner) && w.kinds.selects a.kind && rangeMeets w.base w.size a.first (min a.last topByte)

/-- A watch after a hit: the count rises up to 255, and the last fields are those of the check (R112). -/
def Watch.afterHit (w : Watch) (m : Master) (a : Access) (v : Verdict) : Watch :=
  { w with hits := if w.hits < 255 then w.hits + 1 else w.hits, last := some ⟨m, a.cadr, a.kind, v.reason⟩ }

/-- The hit of a check on one watch record, if it is one (R112). -/
def State.hitWatch (s : State) (m : Master) (a : Access) (v : Verdict) (k : WatchIdx) : State :=
  match (s.watch k).watch with
  | none => s
  | some w => if w.hitBy m a then (s.setWatch k (.armed (w.afterHit m a v))).raise w.owner .watch else s

/-- The hits of a check on the watch list; a check denied NOT_READY is a hit on none (R112). -/
def State.hitWatches (s : State) (m : Master) (a : Access) (v : Verdict) : State :=
  if v.reason = some .notReady then s else (List.finRange 8).foldl (fun t k => t.hitWatch m a v k) s

/-- The side effects of a check on the records: the touched flag, the deny latch, the watches. A code that names no
master has none (R105, R106, R112). -/
def State.applyVerdict (s : State) (a : Access) (v : Verdict) : State := match checkMaster a.cmas with
  | none => s
  | some m => ((s.touch v).captureDenial m a v).hitWatches m a v

/-! ### The handshake -/

/-- CSTB asserted while READY: the inputs are sampled, the check is decided, the verdict is driven with CACK, and the
unit becomes ANSWERING. While ANSWERING a strobe changes nothing (R98). -/
def State.strobe (s : State) (a : Access) : State :=
  let seen := s.setPins { s.pins with cstb := true }
  match s.check.phase with
  | .answering _ => seen
  | .ready =>
    let v := s.verdict a
    (seen.applyVerdict a v).setCheck ⟨.answering a, v.out⟩

/-- CHECK_STROBE (R98, R101). -/
def execCheckStrobe (cmas : BitVec 3) (cadr : Address) (cspan : BitVec 6) (cwr : Bool) (s : State) :
    Host.Outcome State Fault Refusal :=
  whenPowered (fun x => x.strobe ⟨cmas, cadr, cspan, cwr⟩) s

/-- CSTB deasserted: an ANSWERING unit deasserts CACK, returns the outputs to idle and becomes READY (R98). -/
def State.releaseStrobe (s : State) : State :=
  let seen := s.setPins { s.pins with cstb := false }
  match s.check.phase with
  | .answering _ => seen.setCheck ⟨.ready, .idle⟩
  | .ready => seen

/-- CHECK_RELEASE (R98). -/
def execCheckRelease (s : State) : Host.Outcome State Fault Refusal := whenPowered State.releaseStrobe s

end Sys2Proof.Machine
end

