-- ==== Sys2Proof/Machine/Queue.lean ====
section
/-! DEFINITION. The wait queue: tickets, the grant scan, removals and the failure lists (chapter 3), with the requests
CANCEL and TICKET and the wait-limit expiry. -/

namespace Sys2Proof.Machine

/-! ### Tickets -/

/-- The ticket after this one, skipping 0 (R49). -/
def succTicket (t : Word) : Word := if t = 65535 then 1 else t + 1

/-- The next value that is neither 0 nor one of the tickets in use; `fuel` is the number of tickets it may skip (R49). -/
def nextTicket (used : List Word) : (fuel : Nat) → Word → Word
  | 0, t => succTicket t
  | fuel + 1, t => if succTicket t ∈ used then nextTicket used fuel (succTicket t) else succTicket t

/-- The tickets of a master's WAITING entries. -/
def State.ticketsOf (s : State) (m : Master) : List Word := (s.queue.filter fun e => e.master = m).map Waiter.ticket

/-- Append an entry at the newest end and advance the master's ticket counter (R31, R49, R50). -/
def State.enqueue (s : State) (e : Waiter) : State :=
  let grown := s.setQueue (s.queue ++ [e])
  let used := grown.ticketsOf e.master
  let x := grown.session e.master
  grown.setSession e.master { x with ticketCounter := nextTicket used used.length x.ticketCounter }

/-! ### Failure lists -/

/-- Add a record at the newest end, dropping the oldest of a full list (R58). -/
def pushFailure (l : List Failure) (f : Failure) : List Failure :=
  (l ++ [f]).drop (l.length + 1 - Config.maxFailures)

/-- An entry removed with WAITFAIL: the flag is raised and the failure recorded (R55, R57, R58). -/
def State.waitFail (s : State) (cause : FailCause) (e : Waiter) : State :=
  (s.setFailureList e.master (pushFailure (s.failureList e.master) ⟨e.ticket, cause⟩)).raise e.master .waitfail

/-- Remove the entries that meet a test, in arrival order, each with WAITFAIL and a failure record when there is a cause
(R63, R64). -/
def State.removeWaiters (s : State) (cause : Option FailCause) (p : Waiter → Bool) : State :=
  let left := s.setQueue (s.queue.filter fun e => !p e)
  match cause with
  | none => left
  | some c => (s.queue.filter p).foldl (fun t e => t.waitFail c e) left

/-! ### The grant scan -/

/-- The bound a master lacks room under, for a window of this size: LIMIT at 24 windows, else QUOTA (R28, R55). -/
def State.lackOfRoom (s : State) (m : Master) (size : Nat) : Option FailCause :=
  if Config.maxWindows ≤ (s.tally m).windows then some .limit
  else if (s.session m).quota < (s.tally m).usage + size then some .quota
  else none

/-- The lease kind of a claim of this length: SESSION for none, TIMED with its deadline counted from now (R7). -/
def State.leaseFor (s : State) : Option Nat → LeaseKind
  | none => .session
  | some n => .timed ⟨n, s.after n, false⟩

/-- The window a waiter is granted (R7, R54). -/
def State.grantedWindow (s : State) (e : Waiter) : Window :=
  ⟨e.master, e.base, e.size, e.mode, s.leaseFor e.length, none, e.ticket, false⟩

/-- An entry is held back by a window in force or by an older entry that stays (R51). -/
def State.heldBack (s : State) (older : List Waiter) (e : Waiter) : Bool :=
  (s.blocker e.region).isSome || older.any fun o => e.region.conflicts o.region

/-- The walk of the grant scan over the entries not yet reached; `older` are the entries that stayed (R53 to R55). -/
def scanFrom (older : List Waiter) : List Waiter → State → State
  | [], s => s.setQueue older
  | e :: rest, s => match s.findFree with
    | none => s.setQueue (older ++ e :: rest)
    | some i =>
      if s.heldBack older e then scanFrom (older ++ [e]) rest s
      else match s.lackOfRoom e.master e.size with
        | some cause => scanFrom older rest (s.waitFail cause e)
        | none => scanFrom older rest ((s.issue i (s.grantedWindow e)).raise e.master .grant)

/-- The grant scan (R52, R53). -/
def State.grantScan (s : State) : State := scanFrom [] s.queue s

/-! ### CANCEL and TICKET -/

/-- What a ticket leads to (R59). -/
inductive TicketFound where
  | waiting (e : Waiter)
  | granted (i : RecIdx)
  | failed (cause : FailCause)
  | nothing
  deriving DecidableEq, Repr

/-- The search of R59: the queue, then the window table, then the failure list, newest record first (R58). -/
def State.findTicket (s : State) (m : Master) (t : Word) : TicketFound :=
  match s.queue.find? (fun e => decide (e.master = m) && decide (e.ticket = t)) with
  | some e => .waiting e
  | none => match s.lowest (fun _ w => decide (w.owner = m) && decide (w.originTicket = t)) with
    | some i => .granted i
    | none => match (s.failureList m).reverse.find? (fun f => decide (f.ticket = t)) with
      | some f => .failed f.cause
      | none => .nothing

/-- What CANCEL does once its tests pass (R60). -/
def cancelAnswer (m : Master) (t : Word) (s : State) : Answer := match s.findTicket m t with
  | .waiting _ =>
    ((s.removeWaiters none fun e => decide (e.master = m) && decide (e.ticket = t)).grantScan).ok []
  | .granted i => ⟨s, .granted, [s.handle i]⟩
  | .failed cause => s.gone cause.code
  | .nothing => s.gone 0

/-- CANCEL as its owning block takes it (R59, R60). -/
def takeCancel (m : Master) (t : Word) : State → State :=
  serve m 0x18 (ticketFormatOk t) fun s => s.gated (s.openGate m) (cancelAnswer m t s)

/-- CANCEL (R60). -/
def execCancel (m : Master) (t : Word) (s : State) : Host.Outcome State Fault Refusal :=
  whenPowered (takeCancel m t) s

/-- The position of an entry: one more than the number of entries older than it (R61). -/
def State.position (s : State) (e : Waiter) : Nat :=
  s.queue.findIdx (fun x => decide (x.master = e.master) && decide (x.ticket = e.ticket)) + 1

/-- What TICKET answers once its tests pass (R61). The remaining wait ticks are the wait deadline minus now, 0 for no
deadline; an entry still queued on its deadline's tick, before WAIT_EXPIRY, shows 0 as well, though R61 says at least
1: the model's choice (log entry 28). -/
def ticketAnswer (m : Master) (t : Word) (s : State) : Answer := match s.findTicket m t with
  | .waiting e => ⟨s, .queued, [word (s.position e), word (e.deadline.elim 0 s.ticksTo)]⟩
  | .granted i => ⟨s, .granted, [s.handle i]⟩
  | .failed cause => s.gone cause.code
  | .nothing => s.gone 0

/-- TICKET as its owning block takes it (R59, R61); it makes no session test. -/
def takeTicket (m : Master) (t : Word) : State → State :=
  serve m 0x19 (ticketFormatOk t) fun s => s.gated (s.partGate m) (ticketAnswer m t s)

/-- TICKET (R61). -/
def execTicket (m : Master) (t : Word) (s : State) : Host.Outcome State Fault Refusal :=
  whenPowered (takeTicket m t) s

/-! ### Wait-limit expiry -/

/-- An entry whose wait deadline the clock has reached (R57). -/
def State.waitDue (s : State) (e : Waiter) : Bool := e.deadline.any s.reached

/-- The wait-limit expiry of a master's entry with this ticket: it is removed with WAITFAIL TIMEOUT, and a grant scan
follows. An entry that is gone, or whose deadline is not reached, takes nothing (R57, R77). -/
def State.expireWait (s : State) (m : Master) (t : Word) : State :=
  if s.queue.any fun e => decide (e.master = m) && decide (e.ticket = t) && s.waitDue e then
    (s.removeWaiters (some .timeout) fun e =>
      decide (e.master = m) && decide (e.ticket = t) && s.waitDue e).grantScan
  else s

/-- WAIT_EXPIRY (R57). -/
def execWaitExpiry (m : Master) (t : Word) (s : State) : Host.Outcome State Fault Refusal :=
  whenPowered (fun x => x.expireWait m t) s

end Sys2Proof.Machine
end

