-- ==== Sys2Proof/Machine/Sessions.lean ====
section
/-! DEFINITION. Sessions: NOP, OPEN, CLOSE, KEEPALIVE, the session end and the lapse (chapter 4). -/

namespace Sys2Proof.Machine

/-! ### The session end -/

/-- A window that a session end retires: of the master, and of lease kind SESSION or TIMED (R72, step 1). -/
def endsWith (m : Master) (w : Window) : Bool := decide (w.owner = m) && !w.isStanding

/-- A watch record after its owner's session has ended (R72, step 3). -/
def WatchRecord.without (r : WatchRecord) (m : Master) : WatchRecord := match r with
  | .armed w => if w.owner = m then .free else .armed w
  | .free => .free

/-- Free the watches of a master (R72, R114). -/
def State.freeWatches (s : State) (m : Master) : State := { s with watches := s.watches.map fun r => r.without m }

/-- Give a session record a new state (R65). -/
def State.setSessionState (s : State) (m : Master) (x : SessionState) : State :=
  s.setSession m { s.session m with state := x }

/-- The session end of R72: the windows, the waiters, the watches, the record, then one grant scan. -/
def State.endSession (s : State) (m : Master) (cause : RetireCause) (fail : Option FailCause)
    (after : SessionState) : State :=
  let retired := s.retireAll cause (s.recordsWhere fun _ w => endsWith m w)
  let removed := retired.removeWaiters fail fun e => decide (e.master = m)
  ((removed.freeWatches m).setSessionState m after).grantScan

/-! ### NOP and KEEPALIVE -/

/-- NOP as its owning block takes it: OK in every session state (R71). -/
def takeNop (m : Master) : State → State := serve m 0x01 true fun s => s.gated s.readyGate (s.ok [])

/-- NOP (R71). -/
def execNop (m : Master) (s : State) : Host.Outcome State Fault Refusal := whenPowered (takeNop m) s

/-- KEEPALIVE as its owning block takes it: its effect is the renewal alone (R71). -/
def takeKeepalive (m : Master) : State → State := serve m 0x05 true fun s => s.gated (s.openGate m) (s.ok [])

/-- KEEPALIVE (R71). -/
def execKeepalive (m : Master) (s : State) : Host.Outcome State Fault Refusal := whenPowered (takeKeepalive m) s

/-! ### OPEN and CLOSE -/

/-- The result of an OPEN: the state the session held just before, 0 CLOSED, 1 LAPSED (R69, section 11.4). -/
def SessionState.previousCode : SessionState → Nat
  | .closed => 0
  | .lapsed => 1
  | .opened _ _ => 0

/-- OPEN from its step 3 on (R69). -/
def openAnswer (m : Master) (period : Nat) (s : State) : Answer :=
  if period < Config.minPeriod ∨ Config.maxTicks < period then s.refuse .badOperand
  else match (s.session m).state with
    | .opened _ _ => s.refuse .alreadyOpen
    | .closed => (s.setSessionState m (.opened period (s.after period))).ok [word SessionState.closed.previousCode]
    | .lapsed => (s.setSessionState m (.opened period (s.after period))).ok [word SessionState.lapsed.previousCode]

/-- OPEN as its owning block takes it (R69). -/
def takeOpenSession (m : Master) (period : Word) : State → State :=
  serve m 0x03 true fun s => s.gated (s.partGate m) (openAnswer m period.toNat s)

/-- OPEN (R69). -/
def execOpenSession (m : Master) (period : Word) (s : State) : Host.Outcome State Fault Refusal :=
  whenPowered (takeOpenSession m period) s

/-- CLOSE by the session state (R70). -/
def closeAnswer (m : Master) (s : State) : Answer := match (s.session m).state with
  | .opened _ _ => (s.endSession m .closed none .closed).ok []
  | .lapsed => (s.setSessionState m .closed).ok []
  | .closed => s.ok []

/-- CLOSE as its owning block takes it (R70). -/
def takeClose (m : Master) : State → State := serve m 0x04 true fun s => s.gated (s.partGate m) (closeAnswer m s)

/-- CLOSE (R70). -/
def execClose (m : Master) (s : State) : Host.Outcome State Fault Refusal := whenPowered (takeClose m) s

/-! ### Lapse -/

/-- An OPEN session's deadline is reached (R73). -/
def State.lapseDue (s : State) (m : Master) : Bool := match (s.session m).state with
  | .opened _ deadline => s.reached deadline
  | .closed | .lapsed => false

/-- The notices of a lapse: LAPSED for the master, PEERLAPSE for master 0 when another master lapsed (R73). -/
def State.noticeLapse (s : State) (m : Master) : State :=
  if m = 0 then s.raise m .lapsed else (s.raise m .lapsed).raise 0 .peerlapse

/-- A lapse: the session end with cause LAPSED, then its notices. A session that is not OPEN, or whose deadline is not
reached, takes nothing (R73, R77). -/
def State.lapse (s : State) (m : Master) : State :=
  if s.lapseDue m then (s.endSession m .lapsed none .lapsed).noticeLapse m else s

/-- LAPSE (R73). -/
def execLapse (m : Master) (s : State) : Host.Outcome State Fault Refusal := whenPowered (fun x => x.lapse m) s

end Sys2Proof.Machine
end

