-- ==== Sys2Proof/Machine/Clock.lean ====
section
/-! DEFINITION. The lease clock: TICK and the expiries of the window table, LEASE_EXPIRY, LEASELOW_WARNING and
DRAIN_END (chapter 4, R91). -/

namespace Sys2Proof.Machine

/-- The warning margin of a lease (R79). -/
def warningMargin (length : Nat) : Nat := max 1 (length / 8)

/-- A window's lease deadline is reached, LIVE or DRAINING (R78). -/
def State.leaseDue (s : State) (w : Window) : Bool := match w.kind with
  | .timed l => s.reached l.deadline
  | .session | .standing _ => false

/-- A window's drain deadline is reached (R91). -/
def State.drainDue (s : State) (w : Window) : Bool := w.drain.any fun d => s.reached d.deadline

/-- A window is to be warned: LIVE, TIMED, unwarned, with a remaining time at or below its margin and at least 1; and
an advance has been taken since its lease was set, since the remaining time is below the lease length, so that a lease
of length 1 is not warned (R79, log entry 7). -/
def State.warningDue (s : State) (w : Window) : Bool := match w.kind with
  | .timed l =>
    s.clock.isSome && w.isLive && !l.warned && decide (1 ≤ s.ticksTo l.deadline) &&
      decide (s.ticksTo l.deadline ≤ warningMargin l.length) && decide (s.ticksTo l.deadline < l.length)
  | .session | .standing _ => false

/-- Something the present tick made due has not been taken yet (R77). -/
def State.expiryPending (s : State) : Bool :=
  (List.finRange 6).any s.lapseDue ||
  ((List.finRange 64).any fun i =>
    (s.record i).window.any fun w => s.leaseDue w || s.drainDue w || s.warningDue w) ||
  s.queue.any s.waitDue

/-- The end of a tick: the current tick advances by one, from 4,294,967,295 to 0 (R76). A deadline is taken on the tick
it names (R77), so the clock does not pass a tick with an expiry still to be taken (log entry 6); it does not run while
a start is in progress. -/
def State.advance (s : State) : State := match s.clock with
  | none => s
  | some t => if s.expiryPending then s else s.setClock (some (t + 1))

/-- TICK (R76). -/
def execTick (s : State) : Host.Outcome State Fault Refusal := whenPowered State.advance s

/-- The lease deadline of a record: the window is retired with cause EXPIRED, and a grant scan follows (R78). -/
def State.expireLease (s : State) (i : RecIdx) : State :=
  if (s.record i).window.any s.leaseDue then (s.retire .expired i).grantScan else s

/-- LEASE_EXPIRY (R78). -/
def execLeaseExpiry (i : RecIdx) (s : State) : Host.Outcome State Fault Refusal :=
  whenPowered (fun x => x.expireLease i) s

/-- The window with its warned mark set. -/
def Window.warn (w : Window) : Window := match w.kind with
  | .timed l => { w with kind := .timed { l with warned := true } }
  | .session | .standing _ => w

/-- The warning of a record: its warned mark is set and LEASELOW is raised for the owner (R79). -/
def State.warnLease (s : State) (i : RecIdx) : State := match (s.record i).window with
  | none => s
  | some w => if s.warningDue w then (s.setWindow i w.warn).raise w.owner .leaselow else s

/-- LEASELOW_WARNING (R79). -/
def execLeaselowWarning (i : RecIdx) (s : State) : Host.Outcome State Fault Refusal :=
  whenPowered (fun x => x.warnLease i) s

/-- The drain deadline of a record: the window is retired with its drain cause, and a grant scan follows; a STANDING
window's slot may become a target of the engine (R91, R127). -/
def State.endDrain (s : State) (i : RecIdx) : State := match (s.record i).window.bind Window.drain with
  | none => s
  | some d => if s.reached d.deadline then ((s.retire d.cause.retireCause i).grantScan).kickEngine else s

/-- DRAIN_END (R91). -/
def execDrainEnd (i : RecIdx) (s : State) : Host.Outcome State Fault Refusal := whenPowered (fun x => x.endDrain i) s

end Sys2Proof.Machine
end

