-- ==== Sys2Proof/Machine/Band.lean ====
section
/-! DEFINITION. The boot band: BAND, the widening, the band-cell write and the commit (chapter 9). -/

namespace Sys2Proof.Machine

/-- A window of a master other than 0 that overlaps a band (R140, R143). -/
def bandTakes (band : Nat) (w : Window) : Bool := decide (w.owner ≠ 0) && bandCovers band w.base

/-- A waiter of a master other than 0 that overlaps a band (R141). -/
def bandTakesWaiter (band : Nat) (e : Waiter) : Bool := decide (e.master ≠ 0) && bandCovers band e.base

/-- A new value is pending and due to be written (R139). -/
def State.setPendingBand (s : State) (value : Nat) : State :=
  s.setBand { s.band with pending := some value, writeDue := true }

/-- The windows and waiters a widening reaches: the windows drain or retire in index order, then the waiters are
removed with WAITFAIL BANDED, then one grant scan if anything was retired or removed (R140, R141). -/
def State.widen (s : State) (value grace : Nat) : State :=
  let taken := s.recordsWhere fun _ w => bandTakes value w
  let drained := taken.foldl (fun t i => t.drainWindow .banded grace i) s
  let removed := drained.removeWaiters (some .banded) (bandTakesWaiter value)
  if (grace = 0 ∧ taken ≠ []) ∨ s.queue.any (bandTakesWaiter value) then removed.grantScan else removed

/-- BAND from its mode and value on (R139). The counts are of the windows the widening put into a drain or retired,
those already DRAINING included (log entry 16), and of the entries it removed. -/
def bandValueAnswer (value grace : Nat) (s : State) : Answer :=
  if s.band.effective < value then
    ((((s.setPendingBand value).widen value grace)).kickEngine).ok
      [word (s.setPendingBand value).band.effective, word (s.recordsWhere fun _ w => bandTakes value w).length,
        word (s.queue.filter (bandTakesWaiter value)).length]
  else if s.mode = .maintenance then
    ((s.setPendingBand value).kickEngine).ok [word (s.setPendingBand value).band.effective, word 0, word 0]
  else if value = s.band.effective then s.ok [word s.band.effective, word 0, word 0]
  else s.refuse .narrow

/-- BAND from its step 5 on (R139). -/
def bandAnswer (value grace : Nat) (s : State) : Answer :=
  if Config.maxBand < value ∨ Config.maxTicks < grace then s.refuse .badOperand else bandValueAnswer value grace s

/-- BAND as its owning block takes it (R82, R139). -/
def takeBand (m : Master) (value grace : Word) : State → State :=
  serve m 0x44 true fun s => s.gated (s.supervisorGate m) (bandAnswer value.toNat grace.toNat s)

/-- BAND (R139). -/
def execBand (m : Master) (value grace : Word) (s : State) : Host.Outcome State Fault Refusal :=
  whenPowered (takeBand m value grace) s

/-- The completion of the band-cell erase: the engine becomes PROGRAMMING; the cell's content state stays (R142). -/
def State.bandErased (s : State) : State := match s.engine with
  | .erasingBand value => s.setEngine (.programmingBand value)
  | .idle | .reading _ | .erasingForWrite _ _ _ | .programmingSlot _ _ _ | .erasingForClear _
  | .programmingBand _ => s

/-- BAND_ERASE_DONE (R142). -/
def execBandEraseDone (s : State) : Host.Outcome State Fault Refusal := whenPowered State.bandErased s

/-- The commit: the committed band takes the value, the windows of other masters over it are retired with cause BANDED
in index order, and one grant scan follows (R143, steps 1 to 3). -/
def State.commitBand (s : State) (value : Nat) : State :=
  let committed := s.setBand { s.band with committed := value, pending := none }
  (committed.retireAll .banded (committed.recordsWhere fun _ w => bandTakes value w)).grantScan

/-- The completion of the band-cell program: the cell is VALID with the captured value; with no newer value due the
commit is taken, and the engine chooses its next target (R142, R143). -/
def State.bandProgrammed (s : State) : State := match s.engine with
  | .programmingBand value =>
    let written := s.setBand { s.band with cell := .valid value }
    if s.band.writeDue then written.endOperation else (written.commitBand value).endOperation
  | .idle | .reading _ | .erasingForWrite _ _ _ | .programmingSlot _ _ _ | .erasingForClear _
  | .erasingBand _ => s

/-- BAND_PROGRAM_DONE (R142, R143). -/
def execBandProgramDone (s : State) : Host.Outcome State Fault Refusal := whenPowered State.bandProgrammed s

end Sys2Proof.Machine
end

