-- ==== Sys2Proof/Machine/Claims.lean ====
section
/-! DEFINITION. Claims, renewals and releases: CLAIM, RENEW, RELEASE, DOWNGRADE, UPGRADE, QUERY, LIST (chapter 2). -/

namespace Sys2Proof.Machine

/-! ### CLAIM -/

/-- The operands of a claim that has kept its encoding (R26). -/
structure ClaimOperands where
  base : Nat
  size : Nat
  mode : AccessMode
  wait : Bool
  lease : Nat
  limit : Nat
  deriving DecidableEq, Repr

/-- The region a claim asks for. -/
def ClaimOperands.region (c : ClaimOperands) : Region := ⟨c.base, c.size, c.mode⟩

/-- The lease length a claim asks for; none asks for a SESSION window (R26). -/
def ClaimOperands.length (c : ClaimOperands) : Option Nat := if c.lease = 0 then none else some c.lease

/-- The value tests of a claim, step 4: BAD_RANGE first, then BAD_OPERAND (R26). -/
def ClaimOperands.rangeFault (c : ClaimOperands) : Option Status :=
  if c.size = 0 ∨ Config.granules < c.base + c.size then some .badRange
  else if Config.maxTicks < c.lease ∨ (c.wait ∧ Config.maxTicks < c.limit) then some .badOperand
  else none

/-- The bound tests of a claim, steps 6a to 6c: RESERVED, LIMIT, QUOTA (R27, R28). -/
def State.claimFault (s : State) (m : Master) (c : ClaimOperands) : Option Status :=
  if m ≠ 0 ∧ bandCovers s.band.effective c.base then some .reserved
  else match s.lackOfRoom m c.size with
    | some .limit => some .limit
    | some _ => some .quota
    | none => none

/-- Some WAITING entry conflicts with a region (R29). -/
def State.waiterConflicts (s : State) (r : Region) : Bool := s.queue.any fun e => r.conflicts e.region

/-- The record a claim is granted into at once, when nothing conflicts and a record is FREE (R29). -/
def State.claimGrant (s : State) (r : Region) : Option RecIdx :=
  if (s.blocker r).isSome ∨ s.waiterConflicts r then none else s.findFree

/-- The window of an immediate grant (R7). -/
def State.claimedWindow (s : State) (m : Master) (c : ClaimOperands) : Window :=
  ⟨m, c.base, c.size, c.mode, s.leaseFor c.length, none, 0, false⟩

/-- The waiter entry of a queued claim (R31, R50). -/
def State.claimWaiter (s : State) (m : Master) (c : ClaimOperands) : Waiter :=
  ⟨m, (s.session m).ticketCounter, c.base, c.size, c.mode, c.length,
    if c.limit = 0 then none else some (s.after c.limit)⟩

/-- The blocker index of a CONFLICT: the lowest blocking record, 64 when only waiters stand in the way (R30). -/
def blockerIndex (i : Option RecIdx) : Word := word (i.elim 64 Fin.val)

/-- A claim that cannot be granted at once: refused under NOWAIT (R30), queued or QUEUE_FULL under WAIT (R31). -/
def State.claimWaits (s : State) (m : Master) (c : ClaimOperands) : Answer :=
  if c.wait then
    if s.queue.length < Config.maxWaiters ∧ (s.ticketsOf m).length < Config.maxWaitersPerMaster then
      ⟨s.enqueue (s.claimWaiter m c), .queued, [(s.session m).ticketCounter]⟩
    else s.refuse .queueFull
  else if (s.blocker c.region).isSome ∨ s.waiterConflicts c.region then
    ⟨s, .conflict, [blockerIndex (s.blocker c.region)]⟩
  else s.refuse .tableFull

/-- A claim from its step 4 on (R26 to R31). -/
def claimAnswer (m : Master) (c : ClaimOperands) (s : State) : Answer :=
  s.gated c.rangeFault <| s.gated (s.claimFault m c) <| match s.claimGrant c.region with
    | some i =>
      let issued := s.issue i (s.claimedWindow m c)
      issued.ok [issued.handle i]
    | none => s.claimWaits m c

/-- The operands of a CLAIM whose options word keeps its encoding (R26, section 11.4). -/
def claimOperands (base size options lease limit : Word) : ClaimOperands :=
  ⟨base.toNat, size.toNat, (optionsMode options).getD .read, (optionsWait options).getD false, lease.toNat,
    limit.toNat⟩

/-- CLAIM as its owning block takes it (R24, R26). -/
def takeClaim (m : Master) (base size options lease limit : Word) : State → State :=
  serve m 0x10 (optionsFormatOk options) fun s =>
    s.gated (s.openGate m) (claimAnswer m (claimOperands base size options lease limit) s)

/-- CLAIM (R29). -/
def execClaim (m : Master) (base size options lease limit : Word) (s : State) : Host.Outcome State Fault Refusal :=
  whenPowered (takeClaim m base size options lease limit) s

/-! ### RENEW -/

/-- RENEW on the window its handle names (R33, R34). -/
def renewWindow (m : Master) (ticks : Nat) (s : State) (i : RecIdx) (w : Window) : Answer :=
  if w.owner ≠ m then s.refuse .notOwner
  else if w.drain.isSome then s.refuse .draining
  else match w.kind with
    | .timed l =>
      let n := if ticks = 0 then l.length else ticks
      (s.setWindow i { w with kind := .timed ⟨n, s.after n, false⟩, touched := false }).ok [word n]
    | .session | .standing _ => s.refuse .notTimed

/-- RENEW from its step 4 on (R33). -/
def renewAnswer (m : Master) (h : Word) (ticks : Nat) (s : State) : Answer :=
  if Config.maxTicks < ticks then s.refuse .badOperand else s.withHandle h (renewWindow m ticks s)

/-- RENEW as its owning block takes it (R24, R33). -/
def takeRenew (m : Master) (h ticks : Word) : State → State :=
  serve m 0x11 (handleFormatOk h) fun s => s.gated (s.openGate m) (renewAnswer m h ticks.toNat s)

/-- RENEW (R34). -/
def execRenew (m : Master) (h ticks : Word) (s : State) : Host.Outcome State Fault Refusal :=
  whenPowered (takeRenew m h ticks) s

/-! ### RELEASE -/

/-- RELEASE of the window its handle names (R36). -/
def releaseWindow (m : Master) (s : State) (i : RecIdx) (w : Window) : Answer :=
  if w.owner ≠ m then s.refuse .notOwner
  else if w.isStanding then s.refuse .standing
  else ((s.retire .released i).grantScan).ok []

/-- RELEASE as its owning block takes it (R24, R36). -/
def takeRelease (m : Master) (h : Word) : State → State :=
  serve m 0x12 (handleFormatOk h) fun s => s.gated (s.openGate m) (s.withHandle h (releaseWindow m s))

/-- RELEASE (R36). -/
def execRelease (m : Master) (h : Word) (s : State) : Host.Outcome State Fault Refusal :=
  whenPowered (takeRelease m h) s

/-! ### DOWNGRADE and UPGRADE -/

/-- The slot of a STANDING window is marked for a rewrite after a mode change (R39). -/
def State.markRewriteOf (s : State) (w : Window) : State := match w.kind with
  | .standing k => s.changeSlot k Slot.markRewrite
  | .session | .timed _ => s

/-- The window's mode changes, with the mark of its slot (R2, R39). -/
def State.changeMode (s : State) (i : RecIdx) (w : Window) (mode : AccessMode) : State :=
  (s.setWindow i { w with mode := mode }).markRewriteOf w

/-- DOWNGRADE of the window its handle names (R38). -/
def downgradeWindow (m : Master) (s : State) (i : RecIdx) (w : Window) : Answer :=
  if w.owner ≠ m then s.refuse .notOwner
  else match w.mode with
    | .read => s.ok []
    | .write => (((s.changeMode i w .read).grantScan).kickEngine).ok []

/-- DOWNGRADE as its owning block takes it (R24, R38). -/
def takeDowngrade (m : Master) (h : Word) : State → State :=
  serve m 0x13 (handleFormatOk h) fun s => s.gated (s.openGate m) (s.withHandle h (downgradeWindow m s))

/-- DOWNGRADE (R38). -/
def execDowngrade (m : Master) (h : Word) (s : State) : Host.Outcome State Fault Refusal :=
  whenPowered (takeDowngrade m h) s

/-- The lowest record other than this one whose window overlaps a region, in any mode (R40, step 6c). -/
def State.overlapOther (s : State) (i : RecIdx) (r : Region) : Option RecIdx :=
  s.lowest fun j w => decide (j ≠ i) && r.overlaps w.region

/-- UPGRADE of the window its handle names (R40, R41). -/
def upgradeWindow (m : Master) (s : State) (i : RecIdx) (w : Window) : Answer :=
  if w.owner ≠ m then s.refuse .notOwner
  else if w.drain.isSome then s.refuse .draining
  else match w.mode with
    | .write => s.ok []
    | .read =>
      if (s.overlapOther i w.region).isSome ∨ s.queue.any (fun e => w.region.overlaps e.region) then
        ⟨s, .conflict, [blockerIndex (s.overlapOther i w.region)]⟩
      else ((s.changeMode i w .write).kickEngine).ok []

/-- UPGRADE as its owning block takes it (R24, R40). -/
def takeUpgrade (m : Master) (h : Word) : State → State :=
  serve m 0x14 (handleFormatOk h) fun s => s.gated (s.openGate m) (s.withHandle h (upgradeWindow m s))

/-- UPGRADE (R40). -/
def execUpgrade (m : Master) (h : Word) (s : State) : Host.Outcome State Fault Refusal :=
  whenPowered (takeUpgrade m h) s

/-! ### QUERY and LIST -/

/-- QUERY of the window its handle names: the summary with the touched flag as it was, the origin ticket, and the flag
cleared (R43, R44). -/
def queryWindow (s : State) (i : RecIdx) (w : Window) : Answer :=
  (s.setWindow i { w with touched := false }).ok (s.summary i w ++ [w.originTicket])

/-- QUERY as its owning block takes it; it makes no session test and no owner test (R24, R43). -/
def takeQuery (m : Master) (h : Word) : State → State :=
  serve m 0x15 (handleFormatOk h) fun s => s.gated (s.partGate m) (s.withHandle h (queryWindow s))

/-- QUERY (R43). -/
def execQuery (m : Master) (h : Word) (s : State) : Host.Outcome State Fault Refusal :=
  whenPowered (takeQuery m h) s

/-- The records a LIST takes: those of the target from the starting index on, at most six (R46). -/
def State.listed (s : State) (start : Nat) (target : Master) : List RecIdx :=
  (s.recordsWhere fun i w => decide (start ≤ i.val) && decide (w.owner = target)).take 6

/-- The continue index of a LIST: one more than the sixth record's, 64 with fewer than six (R46). -/
def continueIndex (l : List RecIdx) : Nat := match l[5]? with
  | some i => i.val + 1
  | none => 64

/-- The summary of a record, none for a FREE one. -/
def State.summaryOf (s : State) (i : RecIdx) : List Word := (s.record i).window.elim [] (s.summary i)

/-- LIST from its step 4 on (R45, R46). -/
def listAnswer (m : Master) (start target : Word) (s : State) : Answer :=
  if 64 < start.toNat then s.refuse .badOperand
  else match masterOf target with
    | none => s.refuse .badOperand
    | some t =>
      if t ≠ m ∧ m ≠ 0 then s.refuse .privileged
      else
        let taken := s.listed start.toNat t
        s.ok (word (continueIndex taken) :: taken.flatMap s.summaryOf)

/-- LIST as its owning block takes it; it makes no session test (R45). -/
def takeList (m : Master) (start target : Word) : State → State :=
  serve m 0x16 true fun s => s.gated (s.partGate m) (listAnswer m start target s)

/-- LIST (R46). -/
def execList (m : Master) (start target : Word) (s : State) : Host.Outcome State Fault Refusal :=
  whenPowered (takeList m start target) s

end Sys2Proof.Machine
end

