-- ==== Sys2Proof/Machine/Maintenance.lean ====
section
/-! DEFINITION. The requests PURGE (R155) and STATUS (R156). -/

namespace Sys2Proof.Machine

/-! ### PURGE -/

/-- PURGE, step 1: the window bound to the slot is retired with cause PURGED, and a grant scan follows (R155). -/
def State.purgeWindow (s : State) : Option RecIdx → State
  | some i => (s.retire .purged i).grantScan
  | none => s

/-- PURGE of a slot: its window is retired, then the slot is marked CLEAR_DUE unless it is BLANK, unmarked and idle. The
results are the record retired, or 64, and 2 CLEAR_DUE or 0 NONE (R155, section 11.4). -/
def purgeSlot (k : SlotIdx) (s : State) : Answer :=
  let purged := s.purgeWindow (s.slot k).binding
  ((purged.changeSlot k Slot.markPurged).kickEngine).ok
    [word ((s.slot k).binding.elim 64 Fin.val),
      word (if (purged.slot k).untouched (purged.engine.workOn k) then 0 else 2)]

/-- PURGE from its step 5 on (R155). -/
def purgeAnswer (slot : Word) (s : State) : Answer := match slotOf slot with
  | none => s.refuse .badOperand
  | some k => if s.mode = .maintenance then purgeSlot k s else s.refuse .notMaint

/-- PURGE as its owning block takes it (R82, R155). -/
def takePurge (m : Master) (slot : Word) : State → State :=
  serve m 0x45 true fun s => s.gated (s.supervisorGate m) (purgeAnswer slot s)

/-- PURGE (R155). -/
def execPurge (m : Master) (slot : Word) (s : State) : Host.Outcome State Fault Refusal :=
  whenPowered (takePurge m slot) s

/-! ### STATUS -/

/-- The engine target code: a slot, 12 for the band cell, 15 for none (section 11.4). -/
def Engine.targetCode : Engine → Nat
  | .idle => 15
  | .reading .band | .erasingBand _ | .programmingBand _ => 12
  | .reading (.slot k) | .erasingForWrite k _ _ | .programmingSlot k _ _ | .erasingForClear k => k.val

/-- The engine state code: 0 IDLE, 2 ERASING, 3 PROGRAMMING; READING is never reported (R156, log entry 17). -/
def Engine.stateCode : Engine → Nat
  | .idle => 0
  | .reading _ => 1
  | .erasingForWrite _ _ _ | .erasingForClear _ | .erasingBand _ => 2
  | .programmingSlot _ _ _ | .programmingBand _ => 3

/-- The reset cause code (section 11.4). -/
def StartCause.code : StartCause → Nat
  | .power => 1
  | .line => 2
  | .soft => 3

/-- The part mode code; STARTING is never reported (R156, log entry 17). -/
def PartMode.code : PartMode → Nat
  | .starting => 0
  | .running => 1
  | .maintenance => 2

/-- The seven words of the status reply (R156, section 11.4). -/
def State.statusWords (s : State) : List Word :=
  [ word (4096 * s.engine.targetCode + 256 * s.engine.stateCode + 32 * s.startUp.bandDamaged.toNat +
      16 * s.startUp.maintenance.toNat + 4 * s.startUp.cause.code + s.mode.code),
    s.startUp.damaged.setWidth 16,
    s.startUp.rejected.setWidth 16,
    word (256 * s.band.pending.getD 127 + s.band.committed),
    word (256 * s.queue.length + s.freeCount),
    s.now.extractLsb' 16 16,
    s.now.extractLsb' 0 16 ]

/-- STATUS as its owning block takes it (R156). -/
def takeStatus (m : Master) : State → State := serve m 0x02 true fun s => s.gated s.readyGate (s.ok s.statusWords)

/-- STATUS (R156). -/
def execStatus (m : Master) (s : State) : Host.Outcome State Fault Refusal := whenPowered (takeStatus m) s

end Sys2Proof.Machine
end

