-- ==== Sys2Proof/Machine/Notices.lean ====
section
/-! DEFINITION. The notice requests: NOTICE READ, NOTICE ACK, NOTICE ENABLE (section 7.4). -/

namespace Sys2Proof.Machine

/-- The five words of the notice reply; an empty latch leaves the capture fields zero (R119, section 11.4). -/
def Notice.words (n : Notice) : List Word :=
  [ n.flags.setWidth 16,
    n.enables.setWidth 16,
    word ((n.latch.elim 0 fun c => 256 * c.span + 16 * c.reason.code + 8 * (decide (c.kind = .write)).toNat) +
      4 * n.more.toNat + 2 * n.latch.isSome.toNat + n.lineEnable.toNat),
    word (n.latch.elim 0 fun c => c.address.toNat / 65536),
    word (n.latch.elim 0 fun c => c.address.toNat % 65536) ]

/-- NOTICE READ as its owning block takes it (R118, R119). -/
def takeNoticeRead (m : Master) : State → State :=
  serve m 0x30 true fun s => s.gated s.readyGate (s.ok (s.notice m).words)

/-- NOTICE READ (R119). -/
def execNoticeRead (m : Master) (s : State) : Host.Outcome State Fault Refusal := whenPowered (takeNoticeRead m) s

/-- A record after an acknowledgement: the named flags are clear, and when DENIED was named and set, the latch is
emptied with its more mark (R120). -/
def Notice.acknowledged (n : Notice) (mask : BitVec 12) : Notice :=
  let cleared := { n with flags := n.flags &&& ~~~mask }
  if mask.getLsbD Flag.denied.bit ∧ n.has .denied then { cleared with latch := none, more := false } else cleared

/-- NOTICE ACK once its tests pass; the result is the set of named flags that were set (R120). -/
def noticeAckAnswer (m : Master) (mask : BitVec 12) (s : State) : Answer :=
  (s.setNotice m (((s.notice m).acknowledged mask).refresh s.mode)).ok [((s.notice m).flags &&& mask).setWidth 16]

/-- NOTICE ACK as its owning block takes it (R118, R120). -/
def takeNoticeAck (m : Master) (mask : Word) : State → State :=
  serve m 0x31 (maskFormatOk mask) fun s => s.gated s.readyGate (noticeAckAnswer m (maskFlags mask) s)

/-- NOTICE ACK (R120). -/
def execNoticeAck (m : Master) (mask : Word) (s : State) : Host.Outcome State Fault Refusal :=
  whenPowered (takeNoticeAck m mask) s

/-- The enables a master may set: all twelve for master 0; masters 1 to 5 have none for PEERLAPSE and STARTLOSS
(R121). -/
def enableMask (m : Master) : BitVec 12 := if m = 0 then 0xFFF else 0x3FF

/-- NOTICE ENABLE once its tests pass; the results are the enables and the line enable held before (R121). -/
def noticeEnableAnswer (m : Master) (mask : BitVec 12) (line : Bool) (s : State) : Answer :=
  let n := s.notice m
  (s.setNotice m (Notice.refresh { n with enables := mask &&& enableMask m, lineEnable := line } s.mode)).ok
    [n.enables.setWidth 16, word n.lineEnable.toNat]

/-- NOTICE ENABLE as its owning block takes it (R118, R121). -/
def takeNoticeEnable (m : Master) (mask line : Word) : State → State :=
  serve m 0x32 (maskFormatOk mask && lineFormatOk line) fun s =>
    s.gated s.readyGate (noticeEnableAnswer m (maskFlags mask) (decide (line = 1)) s)

/-- NOTICE ENABLE (R121). -/
def execNoticeEnable (m : Master) (mask line : Word) (s : State) : Host.Outcome State Fault Refusal :=
  whenPowered (takeNoticeEnable m mask line) s

end Sys2Proof.Machine
end

