-- ==== Sys2Proof/Machine/Standing.lean ====
section
/-! DEFINITION. Standing windows: STAND and UNSTAND (chapter 8). -/

namespace Sys2Proof.Machine

/-- The window stands: the slot is bound and marked WRITE_DUE, the kind becomes STANDING, and the owner's usage falls by
the window's size (R134). -/
def State.standWindow (s : State) (i : RecIdx) (w : Window) (k : SlotIdx) : State :=
  let bound := s.setSlot k { s.slot k with binding := some i, mark := .writeDue }
  let stood := bound.setWindow i { w with kind := .standing k }
  stood.setTally w.owner { stood.tally w.owner with usage := (stood.tally w.owner).usage - w.size }

/-- STAND of the window its handle names (R133, R134). -/
def standAnswer (m : Master) (s : State) (i : RecIdx) (w : Window) : Answer :=
  if w.owner ≠ m then s.refuse .notOwner
  else if w.drain.isSome then s.refuse .draining
  else if w.isStanding then s.refuse .standing
  else if (s.session m).allowance ≤ s.standingCount m then s.refuse .allowance
  else match s.findFreeSlot with
    | none => s.refuse .noSlot
    | some k => ((s.standWindow i w k).kickEngine).ok [word k.val]

/-- STAND as its owning block takes it (R133). -/
def takeStand (m : Master) (h : Word) : State → State :=
  serve m 0x20 (handleFormatOk h) fun s => s.gated (s.openGate m) (s.withHandle h (standAnswer m s))

/-- STAND (R134). -/
def execStand (m : Master) (h : Word) (s : State) : Host.Outcome State Fault Refusal :=
  whenPowered (takeStand m h) s

/-- The window is SESSION again: the kind changes, the owner's usage rises by the size, and the slot is released
(R136). -/
def State.unstandWindow (s : State) (i : RecIdx) (w : Window) (k : SlotIdx) : State :=
  let changed := s.setWindow i { w with kind := .session }
  let counted :=
    changed.setTally w.owner { changed.tally w.owner with usage := (changed.tally w.owner).usage + w.size }
  counted.changeSlot k Slot.unstand

/-- UNSTAND of the window its handle names; the disposal is 1 FREED or 2 CLEAR_DUE (R136, section 11.4). -/
def unstandAnswer (m : Master) (s : State) (i : RecIdx) (w : Window) : Answer :=
  if w.owner ≠ m then s.refuse .notOwner
  else match w.kind with
    | .session | .timed _ => s.refuse .notStanding
    | .standing k =>
      if (s.session m).quota < (s.tally m).usage + w.size then s.refuse .quota
      else ((s.unstandWindow i w k).kickEngine).ok
        [word k.val, word (if (s.slot k).unstandFrees (s.engine.workOn k) then 1 else 2)]

/-- UNSTAND as its owning block takes it (R136). -/
def takeUnstand (m : Master) (h : Word) : State → State :=
  serve m 0x21 (handleFormatOk h) fun s => s.gated (s.openGate m) (s.withHandle h (unstandAnswer m s))

/-- UNSTAND (R136). -/
def execUnstand (m : Master) (h : Word) (s : State) : Host.Outcome State Fault Refusal :=
  whenPowered (takeUnstand m h) s

end Sys2Proof.Machine
end

