-- ==== Sys2Proof/Machine/StartUp.lean ====
section
/-! DEFINITION. Starts, the restore, the loss of supply, and the requests RESTART, PURGE and STATUS (chapter 10, R96). -/

namespace Sys2Proof.Machine

/-! ### The beginning of a start -/

/-- A store phase in progress is broken off and leaves its target DAMAGED (R132, R145). -/
def State.breakPhase (s : State) : State := match s.engine with
  | .erasingForWrite k _ _ => s.setSlot k { s.slot k with content := .damaged }
  | .programmingSlot k _ _ => s.setSlot k { s.slot k with content := .damaged }
  | .erasingForClear k => s.setSlot k { s.slot k with content := .damaged }
  | .erasingBand _ => s.setBand { s.band with cell := .damaged }
  | .programmingBand _ => s.setBand { s.band with cell := .damaged }
  | .idle | .reading _ => s

/-- A link unit as a start leaves it: IDLE, with an empty buffer and an empty reply slot (R158). A frame being received
is voided: with LSEL still low LDO stays driven, with 0 from here on (R157, R163, log entry 19). -/
def Link.atStart (l : Link) : Link :=
  { l with
    phase := .idle, buffer := [], wordCount := 0, lateNonzero := false, reply := none
    ldo := if l.lselLow then some false else none }

/-- A slot as a start leaves it: its content is kept, its binding and mark are not (R123). -/
def Slot.atStart (x : Slot) : Slot := { x with binding := none, mark := .none }

/-- Start-up control when a start begins (R147, R153). -/
def StartUp.begin (cause : StartCause) (hold : Bool) : StartUp := ⟨.starting, cause, false, 0, 0, false, hold⟩

/-- The beginning of a start: the phase in progress is broken off, every volatile record takes its start value, and the
engine is IDLE (R147). The committed band keeps its value until the band cell is read (log entry 11). -/
def State.beginStart (s : State) (cause : StartCause) (hold : Bool) : State :=
  let broken := s.breakPhase
  { links := broken.links.map Link.atStart
    table := Vector.replicate 64 .atStart
    tallies := Vector.replicate 6 .atStart
    sessions := Vector.ofFn Session.atStart
    queue := []
    failures := Vector.replicate 6 []
    clock := none
    check := .atStart
    watches := Vector.replicate 8 .free
    notices := Vector.replicate 6 .atStart
    slots := broken.slots.map Slot.atStart
    engine := .idle
    band := { broken.band with pending := none, writeDue := false }
    startUp := .begin cause hold
    pins := broken.pins
    pending := broken.pending }

/-- The start-up read begins with the band cell (R149). -/
def State.beginRead (s : State) : State := s.setEngine (.reading .band)

/-- POWER_START (R147): the supply is at its operating level, a POWER start begins, and the power-on hold runs. -/
def execPowerStart (s : State) : Host.Outcome State Fault Refusal :=
  .next ((s.beginStart .power true).setPins { s.pins with supply := true })

/-- The power-on hold ends: the start-up read begins, unless RESET# is asserted (R147, log entry 13). -/
def State.endHold (s : State) : State :=
  if s.startUp.hold then
    let ended := s.setStartUp { s.startUp with hold := false }
    if s.pins.reset then ended else ended.beginRead
  else s

/-- POWER_ON_HOLD_END (R147). -/
def execPowerOnHoldEnd (s : State) : Host.Outcome State Fault Refusal := whenPowered State.endHold s

/-- RESET# is asserted: the level is seen, and a part with its supply begins a LINE start (R147, log entry 12). -/
def State.assertReset (s : State) : State :=
  let seen := s.setPins { s.pins with reset := true }
  if s.pins.supply then seen.beginStart .line false else seen

/-- LINE_START (R147). -/
def execLineStart (s : State) : Host.Outcome State Fault Refusal := .next s.assertReset

/-- RESET# is released: the start-up read begins, unless the power-on hold is still running (R147, log entry 13). -/
def State.releaseReset (s : State) : State :=
  let seen := s.setPins { s.pins with reset := false }
  if s.pins.supply ∧ s.pins.reset ∧ s.mode = .starting ∧ s.startUp.hold = false ∧ s.engine = .idle then
    seen.beginRead
  else seen

/-- RESET_RELEASE (R147). -/
def execResetRelease (s : State) : Host.Outcome State Fault Refusal := .next s.releaseReset

/-- The supply is lost: a store phase in progress is broken off and leaves its target DAMAGED (R132). Without supply
the engine and the power-on hold do not go on. -/
def State.loseSupply (s : State) : State :=
  let broken := s.breakPhase.setEngine .idle
  (broken.setStartUp { broken.startUp with hold := false }).setPins { broken.pins with supply := false }

/-- SUPPLY_LOSS (R132). -/
def execSupplyLoss (s : State) : Host.Outcome State Fault Refusal := whenPowered State.loseSupply s

/-! ### RESTART -/

/-- A SOFT start: the start-up read begins at once (R96, R147). -/
def State.softStart (s : State) : State := (s.beginStart .soft false).beginRead

/-- RESTART as its owning block takes it: a refusal is answered; a RESTART that passes begins a SOFT start, which
empties every reply slot, so no reply is delivered (R96). -/
def takeRestart (m : Master) (s : State) : State :=
  match (s.renewSession m).supervisorGate m with
  | some _ => serve m 0x43 true (fun x => x.gated (x.supervisorGate m) (x.ok [])) s
  | none => (s.renewSession m).softStart

/-- RESTART (R96). -/
def execRestart (m : Master) (s : State) : Host.Outcome State Fault Refusal := whenPowered (takeRestart m) s

/-! ### The start-up read -/

/-- The read of the band cell sets the committed band, the pending band, the flag and BAND_DAMAGED from the cell's
content, and the engine goes on to slot 0 (R137, R149). -/
def State.readBandCell (s : State) : State := match s.engine with
  | .reading .band => match s.band.cell with
    | .valid b =>
      (s.setBand { s.band with committed := b, pending := none, writeDue := false }).setEngine (.reading (.slot 0))
    | .damaged =>
      ((s.setBand { s.band with committed := 64, pending := some 64, writeDue := true }).setStartUp
        { s.startUp with bandDamaged := true }).setEngine (.reading (.slot 0))
  | .idle | .reading (.slot _) | .erasingForWrite _ _ _ | .programmingSlot _ _ _ | .erasingForClear _
  | .erasingBand _ | .programmingBand _ => s

/-- BAND_CELL_READ (R149). -/
def execBandCellRead (s : State) : Host.Outcome State Fault Refusal := whenPowered State.readBandCell s

/-- The window an image stands for, when its check value agrees and its fields are in range (R150, conditions 1
and 2). -/
def imageWindow (x : Image) (k : SlotIdx) : Option Window :=
  if h : x.owner < 6 then match x.mode with
    | some mode =>
      if x.check = Config.imageCheck x.owner x.base x.size (some mode) ∧ 1 ≤ x.size ∧
          x.base + x.size ≤ Config.granules then
        some ⟨⟨x.owner, h⟩, x.base, x.size, mode, .standing k, none, 0, false⟩
      else none
    | none => none
  else none

/-- A restored window is accepted: it conflicts with no window already restored, and it is master 0's or clear of the
committed band (R150, conditions 3 and 4). -/
def State.accepts (s : State) (w : Window) : Bool :=
  (s.blocker w.region).isNone && (decide (w.owner = 0) || !bandCovers s.band.committed w.base)

/-- The bit of a slot in the restore report (R153). -/
def slotBit (k : SlotIdx) : BitVec 12 := BitVec.ofNat 12 (2 ^ k.val)

/-- Mark a slot CLEAR_DUE and set its DAMAGED bit (R150). -/
def State.reportDamaged (s : State) (k : SlotIdx) : State :=
  (s.setSlot k { s.slot k with mark := .clearDue }).setStartUp
    { s.startUp with damaged := s.startUp.damaged ||| slotBit k }

/-- Mark a slot CLEAR_DUE and set its REJECTED bit (R150). -/
def State.reportRejected (s : State) (k : SlotIdx) : State :=
  (s.setSlot k { s.slot k with mark := .clearDue }).setStartUp
    { s.startUp with rejected := s.startUp.rejected ||| slotBit k }

/-- An accepted image is issued into the lowest FREE record, and the slot is bound to it (R150). -/
def State.restoreWindow (s : State) (k : SlotIdx) (w : Window) : State := match s.findFree with
  | none => s
  | some i => (s.issue i w).setSlot k { s.slot k with binding := some i }

/-- A slot is decided by its content (R150). -/
def State.restoreSlot (s : State) (k : SlotIdx) : State := match (s.slot k).content with
  | .blank => s
  | .damaged => s.reportDamaged k
  | .valid image => match imageWindow image k with
    | none => s.reportRejected k
    | some w => if s.accepts w then s.restoreWindow k w else s.reportRejected k

/-- The restore report holds a set bit (R153). -/
def StartUp.reportEmpty (u : StartUp) : Bool := u.damaged == 0 && u.rejected == 0 && !u.bandDamaged

/-- The part mode and the maintenance flag at the end of STARTING (R147, R152). -/
def StartUp.finish (u : StartUp) (maint : Bool) : StartUp :=
  let flag := maint && decide (u.cause ≠ .soft)
  { u with maintenance := flag, mode := if flag then .maintenance else .running }

/-- The end of STARTING: the flag and the mode, tick 0, the NOTE lines under the new mode, STARTLOSS for a report that
is not empty, and the engine's first choice (R152). A check answered in STARTING whose CSTB is still held stays
answered, so the check unit may be ANSWERING when STARTING ends: the model's choice (log entry 29). -/
def State.endStarting (s : State) : State :=
  let entered := (s.setStartUp (s.startUp.finish s.pins.maint)).setClock (some 0)
  let lines := { entered with notices := entered.notices.map fun n => Notice.refresh n entered.mode }
  (if s.startUp.reportEmpty then lines else lines.raise 0 .startloss).endOperation

/-- The read of a slot completes: the slot is decided, and the engine goes on to the next slot; after slot 11 STARTING
ends (R149, R150, R152). -/
def State.readSlot (s : State) (maint : Bool) : State := match s.engine with
  | .reading (.slot k) =>
    let decided := (s.setPins { s.pins with maint := maint }).restoreSlot k
    if h : k.val + 1 < 12 then decided.setEngine (.reading (.slot ⟨k.val + 1, h⟩)) else decided.endStarting
  | .idle | .reading .band | .erasingForWrite _ _ _ | .programmingSlot _ _ _ | .erasingForClear _
  | .erasingBand _ | .programmingBand _ => s

/-- SLOT_READ (R150, R152). -/
def execSlotRead (maint : Bool) (s : State) : Host.Outcome State Fault Refusal :=
  whenPowered (fun x => x.readSlot maint) s

end Sys2Proof.Machine
end

