-- ==== Sys2Proof/Machine/Supervisor.lean ====
section
/-! DEFINITION. Supervisor control: QUOTA, REVOKE, EVICT (chapter 5). -/

namespace Sys2Proof.Machine

/-! ### QUOTA -/

/-- QUOTA from its step 5 on; the results are the quota and the allowance held before (R83, R84). -/
def quotaAnswer (target : Word) (quota allowance : Nat) (s : State) : Answer := match masterOf target with
  | none => s.refuse .badOperand
  | some t =>
    if Config.granules < quota ∨ Config.maxAllowance < allowance then s.refuse .badOperand
    else if quota < (s.tally t).usage then s.refuse .inUse
    else
      let old := s.session t
      (s.setSession t { old with quota := quota, allowance := allowance }).ok [word old.quota, word old.allowance]

/-- QUOTA as its owning block takes it (R82, R83). -/
def takeQuota (m : Master) (target quota allowance : Word) : State → State :=
  serve m 0x40 true fun s => s.gated (s.supervisorGate m) (quotaAnswer target quota.toNat allowance.toNat s)

/-- QUOTA (R84). -/
def execQuota (m : Master) (target quota allowance : Word) (s : State) : Host.Outcome State Fault Refusal :=
  whenPowered (takeQuota m target quota allowance) s

/-! ### REVOKE -/

/-- A STANDING window's slot is marked for the clear that a revocation with a grace of 1 or more calls for (R89). -/
def State.markRevokedOf (s : State) (w : Window) : State := match w.kind with
  | .standing k => s.changeSlot k Slot.markRevoked
  | .session | .timed _ => s

/-- REVOKE of the window its handle names: with grace 0 it is retired, with one grant scan; with a grace of 1 or more it
drains. The result is the drain ticks remaining (R86 to R89). -/
def revokeWindow (grace : Nat) (s : State) (i : RecIdx) (w : Window) : Answer :=
  if grace = 0 then (((s.drainWindow .revoked 0 i).grantScan).kickEngine).ok [word 0]
  else (((s.drainWindow .revoked grace i).markRevokedOf w).kickEngine).ok
    [word (s.ticksTo (s.drainOf w .revoked grace).deadline)]

/-- REVOKE from its step 5 on (R82, R86). -/
def revokeAnswer (h : Word) (grace : Nat) (s : State) : Answer :=
  if Config.maxTicks < grace then s.refuse .badOperand else s.withHandle h (revokeWindow grace s)

/-- REVOKE as its owning block takes it (R82, R86). -/
def takeRevoke (m : Master) (h grace : Word) : State → State :=
  serve m 0x41 (handleFormatOk h) fun s => s.gated (s.supervisorGate m) (revokeAnswer h grace.toNat s)

/-- REVOKE (R86). -/
def execRevoke (m : Master) (h grace : Word) (s : State) : Host.Outcome State Fault Refusal :=
  whenPowered (takeRevoke m h grace) s

/-! ### EVICT -/

/-- EVICT by the target's session state; the results are the windows retired and the entries removed (R93). -/
def evictTarget (t : Master) (s : State) : Answer := match (s.session t).state with
  | .opened _ _ =>
    (s.endSession t .evicted (some .evicted) .closed).ok
      [word (s.recordsWhere fun _ w => endsWith t w).length, word (s.ticketsOf t).length]
  | .lapsed => (s.setSessionState t .closed).ok [word 0, word 0]
  | .closed => s.ok [word 0, word 0]

/-- EVICT from its step 5 on (R93). -/
def evictAnswer (target : Word) (s : State) : Answer := match masterOf target with
  | none => s.refuse .badOperand
  | some t => evictTarget t s

/-- EVICT as its owning block takes it (R82, R93). -/
def takeEvict (m : Master) (target : Word) : State → State :=
  serve m 0x42 true fun s => s.gated (s.supervisorGate m) (evictAnswer target s)

/-- EVICT (R93). -/
def execEvict (m : Master) (target : Word) (s : State) : Host.Outcome State Fault Refusal :=
  whenPowered (takeEvict m target) s

end Sys2Proof.Machine
end

