-- ==== Sys2Proof/Machine/Frames.lean ====
section
/-! DEFINITION. Request frames and the link units: the frame a request is sent in, the tests at the end of a frame, the
handover, FRAME_END and LSEL_FALL (chapter 11). -/

namespace Sys2Proof.Machine

/-! ### The code list -/

/-- The request a command code and its operands stand for, when the code is one of the list and the operand count is
the command's (section 11.4). -/
def requestOf (m : Master) (code : Nat) (ops : List Word) : Option Instr := match code, ops with
  | 0x01, [] => some (.nop m)
  | 0x02, [] => some (.status m)
  | 0x03, [period] => some (.openSession m period)
  | 0x04, [] => some (.close m)
  | 0x05, [] => some (.keepalive m)
  | 0x10, [base, size, options, lease, limit] => some (.claim m base size options lease limit)
  | 0x11, [handle, ticks] => some (.renew m handle ticks)
  | 0x12, [handle] => some (.release m handle)
  | 0x13, [handle] => some (.downgrade m handle)
  | 0x14, [handle] => some (.upgrade m handle)
  | 0x15, [handle] => some (.query m handle)
  | 0x16, [start, target] => some (.list m start target)
  | 0x18, [t] => some (.cancel m t)
  | 0x19, [t] => some (.ticket m t)
  | 0x20, [handle] => some (.stand m handle)
  | 0x21, [handle] => some (.unstand m handle)
  | 0x28, [base, size, kinds] => some (.watchSet m base size kinds)
  | 0x29, [id] => some (.watchClear m id)
  | 0x2A, [id] => some (.watchRead m id)
  | 0x30, [] => some (.noticeRead m)
  | 0x31, [mask] => some (.noticeAck m mask)
  | 0x32, [mask, line] => some (.noticeEnable m mask line)
  | 0x40, [target, quota, allowance] => some (.quota m target quota allowance)
  | 0x41, [handle, grace] => some (.revoke m handle grace)
  | 0x42, [target] => some (.evict m target)
  | 0x43, [] => some (.restart m)
  | 0x44, [value, grace] => some (.band m value grace)
  | 0x45, [slot] => some (.purge m slot)
  | _, _ => none

/-- The command codes of the list (section 11.4). -/
def commandCodes : List Nat :=
  [0x01, 0x02, 0x03, 0x04, 0x05, 0x10, 0x11, 0x12, 0x13, 0x14, 0x15, 0x16, 0x18, 0x19] ++
  [0x20, 0x21, 0x28, 0x29, 0x2A, 0x30, 0x31, 0x32, 0x40, 0x41, 0x42, 0x43, 0x44, 0x45]

/-- The sender, command code and operands of a request; none for an event (section 11.4). -/
def requestParts : Instr → Option (Master × Nat × List Word)
  | .nop m => some (m, 0x01, [])
  | .status m => some (m, 0x02, [])
  | .openSession m period => some (m, 0x03, [period])
  | .close m => some (m, 0x04, [])
  | .keepalive m => some (m, 0x05, [])
  | .claim m base size options lease limit => some (m, 0x10, [base, size, options, lease, limit])
  | .renew m handle ticks => some (m, 0x11, [handle, ticks])
  | .release m handle => some (m, 0x12, [handle])
  | .downgrade m handle => some (m, 0x13, [handle])
  | .upgrade m handle => some (m, 0x14, [handle])
  | .query m handle => some (m, 0x15, [handle])
  | .list m start target => some (m, 0x16, [start, target])
  | .cancel m t => some (m, 0x18, [t])
  | .ticket m t => some (m, 0x19, [t])
  | .stand m handle => some (m, 0x20, [handle])
  | .unstand m handle => some (m, 0x21, [handle])
  | .watchSet m base size kinds => some (m, 0x28, [base, size, kinds])
  | .watchClear m id => some (m, 0x29, [id])
  | .watchRead m id => some (m, 0x2A, [id])
  | .noticeRead m => some (m, 0x30, [])
  | .noticeAck m mask => some (m, 0x31, [mask])
  | .noticeEnable m mask line => some (m, 0x32, [mask, line])
  | .quota m target quota allowance => some (m, 0x40, [target, quota, allowance])
  | .revoke m handle grace => some (m, 0x41, [handle, grace])
  | .evict m target => some (m, 0x42, [target])
  | .restart m => some (m, 0x43, [])
  | .band m value grace => some (m, 0x44, [value, grace])
  | .purge m slot => some (m, 0x45, [slot])
  | .frameEnd _ _ | .checkStrobe _ _ _ _ | .checkRelease | .tick | .lapse _ | .leaseExpiry _ => none
  | .leaselowWarning _ | .drainEnd _ | .waitExpiry _ _ | .slotEraseDone | .slotProgramDone | .clearDone => none
  | .bandEraseDone | .bandProgramDone | .bandCellRead | .slotRead _ | .powerStart | .powerOnHoldEnd => none
  | .lineStart | .resetRelease | .supplyLoss | .lselFall _ | .lossOfRetention _ _ => none

/-- The request words of a command code and operands: command word, operands, check word (section 11.2). -/
def frameWords (code : Nat) (ops : List Word) : List Word :=
  let body := word (256 * code + ops.length) :: ops
  body ++ [checkWord body]

/-- The block that owns the state a request names takes it (R161); an event is no request. -/
def takeRequest (i : Instr) (s : State) : State := match i with
  | .nop m => takeNop m s
  | .status m => takeStatus m s
  | .openSession m period => takeOpenSession m period s
  | .close m => takeClose m s
  | .keepalive m => takeKeepalive m s
  | .claim m base size options lease limit => takeClaim m base size options lease limit s
  | .renew m handle ticks => takeRenew m handle ticks s
  | .release m handle => takeRelease m handle s
  | .downgrade m handle => takeDowngrade m handle s
  | .upgrade m handle => takeUpgrade m handle s
  | .query m handle => takeQuery m handle s
  | .list m start target => takeList m start target s
  | .cancel m t => takeCancel m t s
  | .ticket m t => takeTicket m t s
  | .stand m handle => takeStand m handle s
  | .unstand m handle => takeUnstand m handle s
  | .watchSet m base size kinds => takeWatchSet m base size kinds s
  | .watchClear m id => takeWatchClear m id s
  | .watchRead m id => takeWatchRead m id s
  | .noticeRead m => takeNoticeRead m s
  | .noticeAck m mask => takeNoticeAck m mask s
  | .noticeEnable m mask line => takeNoticeEnable m mask line s
  | .quota m target quota allowance => takeQuota m target quota allowance s
  | .revoke m handle grace => takeRevoke m handle grace s
  | .evict m target => takeEvict m target s
  | .restart m => takeRestart m s
  | .band m value grace => takeBand m value grace s
  | .purge m slot => takePurge m slot s
  | .frameEnd _ _ | .checkStrobe _ _ _ _ | .checkRelease | .tick | .lapse _ | .leaseExpiry _ => s
  | .leaselowWarning _ | .drainEnd _ | .waitExpiry _ _ | .slotEraseDone | .slotProgramDone | .clearDone => s
  | .bandEraseDone | .bandProgramDone | .bandCellRead | .slotRead _ | .powerStart | .powerOnHoldEnd => s
  | .lineStart | .resetRelease | .supplyLoss | .lselFall _ | .lossOfRetention _ _ => s

/-! ### Frame checking -/

/-- What the tests at the end of a frame of one or more words find (R161): a frame that is not well formed, a code that
is not in the list, a command word that breaks its encoding, or a request, whose operands the format tests then read. -/
inductive FrameResult where
  | frameError
  | unknown
  | badOperand
  | request (i : Instr)
  deriving DecidableEq, Repr

/-- Tests 5 and 6 of R161 on the command word of a well-formed frame with its operands (R162). -/
def handover (m : Master) (command : Word) (ops : List Word) : FrameResult :=
  let code := (command.extractLsb' 8 8).toNat
  if code ∉ commandCodes then .unknown
  else if command.extractLsb' 4 4 ≠ 0 then .badOperand
  else match requestOf m code ops with
    | none => .badOperand
    | some i => .request i

/-- The tests of R161 on a frame: `words` are the words stored, `count` the words completed, and `lateNonzero` tells
whether a word that was not stored was other than 0x0000. -/
def checkFrame (m : Master) (words : List Word) (count : Nat) (lateNonzero : Bool) : FrameResult := match words with
  | [] => .frameError
  | command :: _ =>
    let n := (command.extractLsb' 0 4).toNat
    if 8 < n then .frameError
    else if count < n + 2 then .frameError
    else if words[n + 1]? ≠ some (checkWord (words.take (n + 1))) then .frameError
    else if lateNonzero ∨ (words.drop (n + 2)).any (· ≠ 0) then .frameError
    else handover m command ((words.take (n + 1)).drop 1)

/-! ### The link unit -/

/-- The words LDO has to shift out: those of the reply in the slot, none for an empty slot (R159). -/
def Link.replyWords (l : Link) : List Word := l.reply.elim [] Reply.words

/-- A fall of LSEL in IDLE: the unit becomes RECEIVING with an empty buffer and a word count of 0, and LDO is driven
with the first bit of the reply slot as it stands (R157, R158, R159). It does so whatever level of LSEL is recorded,
since a fall says that the level was high; in RECEIVING it changes nothing (the model's choice, log entry 26). -/
def Link.fall (l : Link) : Link := match l.phase with
  | .idle =>
    { l with
      phase := .receiving, buffer := [], wordCount := 0, lateNonzero := false, lselLow := true,
      shiftOut := l.replyWords, ldo := some (firstBit l.replyWords) }
  | .receiving => l

/-- LSEL is low, and the unit does not see the frame: it has no supply, and LDO has nothing to shift out in it (log
entry 12). -/
def Link.fallUnseen (l : Link) : Link := { l with lselLow := true, shiftOut := [] }

/-- The level of LSEL falls (R158). -/
def State.fallLsel (s : State) (m : Master) : State :=
  if s.pins.supply then s.setLink m (s.link m).fall else s.setLink m (s.link m).fallUnseen

/-- LSEL_FALL (R158). -/
def execLselFall (m : Master) (s : State) : Host.Outcome State Fault Refusal := .next (s.fallLsel m)

/-- The link unit when a frame it received ends: IDLE, with the first ten words in the buffer, the words counted, a
reply slot emptied when there was one word or more, and LDO undriven, after one level at LSEL's fall and one at each
LCLK falling edge (R157 to R160). -/
def Link.received (l : Link) (ldi : List Bool) : Link :=
  let words := wordsOfBits ldi
  { l with
    phase := .idle
    buffer := words.take Config.bufferWords
    wordCount := words.length
    lateNonzero := (words.drop Config.bufferWords).any (· ≠ 0)
    reply := if words = [] then l.reply else none
    ldo := none
    ldoBits := shiftedOut l.shiftOut (ldi.length + 1)
    ldoRead := shiftedOut l.shiftOut ldi.length
    lselLow := false }

/-- A rise of LSEL in IDLE: nothing is taken, and LDO is left undriven. In a frame that a start voided LDO was driven
with the reply's bits until the start, with 0 by the start, and with 0 at each LCLK falling edge after it; so every
rising edge after the start finds 0, and the words clocked from there on read 0x0000 (R157 to R159, R163). -/
def Link.riseIdle (l : Link) (ldi : Clocked) : Link :=
  if l.lselLow then
    { l with
      ldo := none
      ldoBits := shiftedOut l.shiftOut (ldi.bits.length + 1) ++ List.replicate (ldi.ignored + 1) false
      ldoRead := shiftedOut l.shiftOut ldi.bits.length ++ List.replicate ldi.ignored false
      lselLow := false }
  else l

/-- The bits 15 to 8 of the first word received, which a header of the link unit echoes (R161). -/
def Link.echo (l : Link) : Byte := (l.buffer.headD 0).extractLsb' 8 8

/-- A frame of one or more words is taken: FRAME_ERROR renews nothing; UNKNOWN and BAD_OPERAND renew the session; a
request is handed over (R67, R161). -/
def State.takeFrame (s : State) (m : Master) : State :=
  let l := s.link m
  match checkFrame m l.buffer l.wordCount l.lateNonzero with
  | .frameError => s.placeReply m ⟨.frameError, l.echo, []⟩
  | .unknown => (s.renewSession m).placeReply m ⟨.unknown, l.echo, []⟩
  | .badOperand => (s.renewSession m).placeReply m ⟨.badOperand, l.echo, []⟩
  | .request i => takeRequest i s

/-- A rise of LSEL (R158, R160, R161). -/
def State.endFrame (s : State) (m : Master) (ldi : Clocked) : State := match (s.link m).phase with
  | .idle => s.setLink m ((s.link m).riseIdle ldi)
  | .receiving =>
    let ended := s.setLink m ((s.link m).received ldi.bits)
    if wordsOfBits ldi.bits = [] then ended else ended.takeFrame m

/-- The level of LSEL rises; a part without supply sees nothing of the frame (R158, log entry 12). -/
def State.riseLsel (s : State) (m : Master) (ldi : Clocked) : State :=
  if s.pins.supply then s.endFrame m ldi else s.setLink m { s.link m with lselLow := false }

/-- FRAME_END (R158 to R161). -/
def execFrameEnd (m : Master) (ldi : Clocked) (s : State) : Host.Outcome State Fault Refusal :=
  .next (s.riseLsel m ldi)

end Sys2Proof.Machine
end

