-- ==== Sys2Proof/Machine/Store.lean ====
section
/-! DEFINITION. The store engine's slot phases: SLOT_ERASE_DONE, SLOT_PROGRAM_DONE, CLEAR_DONE (R129, R130), and the
loss of retention in a slot cell (R123). -/

namespace Sys2Proof.Machine

/-- The erase of a slot write completes: the slot is BLANK, and the engine becomes PROGRAMMING on it (R129). -/
def State.slotErased (s : State) : State := match s.engine with
  | .erasingForWrite k image i =>
    (s.setSlot k { s.slot k with content := .blank }).setEngine (.programmingSlot k image i)
  | .idle | .reading _ | .programmingSlot _ _ _ | .erasingForClear _ | .erasingBand _ | .programmingBand _ => s

/-- SLOT_ERASE_DONE (R129). -/
def execSlotEraseDone (s : State) : Host.Outcome State Fault Refusal := whenPowered State.slotErased s

/-- The slot is still bound to the record it was bound to when the write began, and carries no mark (R129). -/
def Slot.imageCurrent (x : Slot) (i : RecIdx) : Bool := decide (x.binding = some i) && decide (x.mark = .none)

/-- STORED for the owner of the bound window, when the image just written is current (R129). -/
def State.noticeStored (s : State) (k : SlotIdx) (i : RecIdx) : State :=
  if (s.slot k).imageCurrent i then (s.record i).window.elim s fun w => s.raise w.owner .stored else s

/-- The program of a slot write completes: the slot is VALID with the captured image, STORED may be raised, and the
engine chooses its next target (R129). -/
def State.slotProgrammed (s : State) : State := match s.engine with
  | .programmingSlot k image i =>
    ((s.setSlot k { s.slot k with content := .valid image }).noticeStored k i).endOperation
  | .idle | .reading _ | .erasingForWrite _ _ _ | .erasingForClear _ | .erasingBand _ | .programmingBand _ => s

/-- SLOT_PROGRAM_DONE (R129). -/
def execSlotProgramDone (s : State) : Host.Outcome State Fault Refusal := whenPowered State.slotProgrammed s

/-- The erase of a clear completes: the slot is BLANK, and the engine chooses its next target (R130). -/
def State.slotCleared (s : State) : State := match s.engine with
  | .erasingForClear k => (s.setSlot k { s.slot k with content := .blank }).endOperation
  | .idle | .reading _ | .erasingForWrite _ _ _ | .programmingSlot _ _ _ | .erasingBand _ | .programmingBand _ => s

/-- CLEAR_DONE (R130). -/
def execClearDone (s : State) : Host.Outcome State Fault Refusal := whenPowered State.slotCleared s

/-- The image in a VALID slot is altered; the slot stays VALID. A slot that holds no image has none to lose (R123). -/
def State.loseRetention (s : State) (k : SlotIdx) (image : Image) : State := match (s.slot k).content with
  | .valid _ => s.setSlot k { s.slot k with content := .valid image }
  | .blank | .damaged => s

/-- LOSS_OF_RETENTION (R123): it does not need the supply. -/
def execLossOfRetention (k : SlotIdx) (image : Image) (s : State) : Host.Outcome State Fault Refusal :=
  .next (s.loseRetention k image)

end Sys2Proof.Machine
end

