-- ==== Sys2Proof/Machine/Dispatch.lean ====
section
/-! DEFINITION. One arm per command: each calls its meaning. -/

namespace Sys2Proof.Machine

/-- The effect of a command on everything but the queue. -/
def exec (i : Instr) (s : State) : Host.Outcome State Fault Refusal :=
  match i with
  | .nop m => Sys2Proof.Machine.execNop m s
  | .status m => Sys2Proof.Machine.execStatus m s
  | .openSession m period => Sys2Proof.Machine.execOpenSession m period s
  | .close m => Sys2Proof.Machine.execClose m s
  | .keepalive m => Sys2Proof.Machine.execKeepalive m s
  | .claim m base size options lease limit => Sys2Proof.Machine.execClaim m base size options lease limit s
  | .renew m handle ticks => Sys2Proof.Machine.execRenew m handle ticks s
  | .release m handle => Sys2Proof.Machine.execRelease m handle s
  | .downgrade m handle => Sys2Proof.Machine.execDowngrade m handle s
  | .upgrade m handle => Sys2Proof.Machine.execUpgrade m handle s
  | .query m handle => Sys2Proof.Machine.execQuery m handle s
  | .list m start target => Sys2Proof.Machine.execList m start target s
  | .cancel m ticket => Sys2Proof.Machine.execCancel m ticket s
  | .ticket m ticket => Sys2Proof.Machine.execTicket m ticket s
  | .stand m handle => Sys2Proof.Machine.execStand m handle s
  | .unstand m handle => Sys2Proof.Machine.execUnstand m handle s
  | .watchSet m base size kinds => Sys2Proof.Machine.execWatchSet m base size kinds s
  | .watchClear m id => Sys2Proof.Machine.execWatchClear m id s
  | .watchRead m id => Sys2Proof.Machine.execWatchRead m id s
  | .noticeRead m => Sys2Proof.Machine.execNoticeRead m s
  | .noticeAck m mask => Sys2Proof.Machine.execNoticeAck m mask s
  | .noticeEnable m mask line => Sys2Proof.Machine.execNoticeEnable m mask line s
  | .quota m target quota allowance => Sys2Proof.Machine.execQuota m target quota allowance s
  | .revoke m handle grace => Sys2Proof.Machine.execRevoke m handle grace s
  | .evict m target => Sys2Proof.Machine.execEvict m target s
  | .restart m => Sys2Proof.Machine.execRestart m s
  | .band m value grace => Sys2Proof.Machine.execBand m value grace s
  | .purge m slot => Sys2Proof.Machine.execPurge m slot s
  | .frameEnd link ldi => Sys2Proof.Machine.execFrameEnd link ldi s
  | .checkStrobe cmas cadr cspan cwr => Sys2Proof.Machine.execCheckStrobe cmas cadr cspan cwr s
  | .checkRelease => Sys2Proof.Machine.execCheckRelease s
  | .tick => Sys2Proof.Machine.execTick s
  | .lapse m => Sys2Proof.Machine.execLapse m s
  | .leaseExpiry k => Sys2Proof.Machine.execLeaseExpiry k s
  | .leaselowWarning k => Sys2Proof.Machine.execLeaselowWarning k s
  | .drainEnd k => Sys2Proof.Machine.execDrainEnd k s
  | .waitExpiry m ticket => Sys2Proof.Machine.execWaitExpiry m ticket s
  | .slotEraseDone => Sys2Proof.Machine.execSlotEraseDone s
  | .slotProgramDone => Sys2Proof.Machine.execSlotProgramDone s
  | .clearDone => Sys2Proof.Machine.execClearDone s
  | .bandEraseDone => Sys2Proof.Machine.execBandEraseDone s
  | .bandProgramDone => Sys2Proof.Machine.execBandProgramDone s
  | .bandCellRead => Sys2Proof.Machine.execBandCellRead s
  | .slotRead maint => Sys2Proof.Machine.execSlotRead maint s
  | .powerStart => Sys2Proof.Machine.execPowerStart s
  | .powerOnHoldEnd => Sys2Proof.Machine.execPowerOnHoldEnd s
  | .lineStart => Sys2Proof.Machine.execLineStart s
  | .resetRelease => Sys2Proof.Machine.execResetRelease s
  | .supplyLoss => Sys2Proof.Machine.execSupplyLoss s
  | .lselFall link => Sys2Proof.Machine.execLselFall link s
  | .lossOfRetention slot image => Sys2Proof.Machine.execLossOfRetention slot image s

end Sys2Proof.Machine
end

