-- ==== Sys2Proof/Safety.lean ====
section
/-! DEFINITION. The words claims about the block are written in: when a request passes the tests all requests share,
how it is answered, which window a handle names, and the laws every reachable state keeps. -/

namespace Sys2Proof

/-! ### Requests by the tests they make -/

/-- The requests answered to masters 1 to 5 in MAINTENANCE (R154). -/
def Instr.inMaintenance : Instr → Bool
  | .nop _ | .status _ | .noticeRead _ | .noticeAck _ _ | .noticeEnable _ _ _ => true
  | _ => false

/-- The supervisor requests (R82). -/
def Instr.isSupervisor : Instr → Bool
  | .quota _ _ _ _ | .revoke _ _ _ | .evict _ _ | .restart _ | .band _ _ _ | .purge _ _ => true
  | _ => false

/-- The requests that make the session test: the left column of R68's table. -/
def Instr.testsSession : Instr → Bool
  | .claim _ _ _ _ _ _ | .renew _ _ _ | .release _ _ | .downgrade _ _ | .upgrade _ _ | .cancel _ _ => true
  | .stand _ _ | .unstand _ _ | .watchSet _ _ _ _ | .watchClear _ _ | .watchRead _ _ | .keepalive _ => true
  | .quota _ _ _ _ | .revoke _ _ _ | .evict _ _ | .restart _ | .band _ _ _ | .purge _ _ => true
  | _ => false

/-- The handle a request names, if it names one and its other operand is in range (R24 step 4, R82 step 5). -/
def Instr.handleInRange : Instr → Option Word
  | .renew _ h ticks => if ticks.toNat ≤ 60000 then some h else none
  | .revoke _ h grace => if grace.toNat ≤ 60000 then some h else none
  | .release _ h | .downgrade _ h | .upgrade _ h | .query _ h | .stand _ h | .unstand _ h => some h
  | _ => none

end Sys2Proof

namespace Sys2Proof.Machine

/-! ### When the part takes a request -/

/-- A session state is OPEN. -/
def SessionState.isOpen : SessionState → Bool
  | .opened _ _ => true
  | .closed | .lapsed => false

/-- The part has its supply and the part-mode tests pass for this master (R24, steps 1 and 2). -/
abbrev State.takes (s : State) (m : Master) : Prop :=
  s.pins.supply = true ∧ s.mode ≠ .starting ∧ (s.mode = .maintenance → m = 0)

/-- The part-mode tests and the session test pass for this master (R24, steps 1 to 3). -/
abbrev State.takesOpen (s : State) (m : Master) : Prop := s.takes m ∧ (s.session m).state.isOpen = true

/-! ### Answers -/

/-- The request is answered: the next state is `u` with this reply in the sender's reply slot (R161). -/
abbrev answered (i : Instr) (s : State) (m : Master) (code : Byte) (u : State) (st : Status) (results : List Word) :
    Prop :=
  exec i s = .next (u.placeReply m ⟨st, code, results⟩)

/-- The request is refused: nothing but the session renewal has happened (R25, R67). -/
abbrev refusedWith (i : Instr) (s : State) (m : Master) (code : Byte) (st : Status) : Prop :=
  answered i s m code (s.renewSession m) st []

/-- A handle names this window: the generations agree and the record holds it (R10). -/
abbrev State.names (s : State) (h : Word) (w : Window) : Prop :=
  (s.record (handleIndex h)).generation = handleGeneration h ∧ (s.record (handleIndex h)).holding = .held w

/-- The lowest-indexed record in force whose window meets a condition. -/
abbrev State.isLowest (s : State) (p : RecIdx → Window → Prop) (i : RecIdx) : Prop :=
  (∃ w, (s.record i).window = some w ∧ p i w) ∧ ∀ j, j < i → ∀ w, (s.record j).window = some w → ¬ p j w

/-- No record in force meets a condition. -/
abbrev State.noneInForce (s : State) (p : RecIdx → Window → Prop) : Prop :=
  ∀ i w, (s.record i).window = some w → ¬ p i w

/-! ### Operands and layouts as the manual gives them -/

/-- The command list of section 11.4: codes with their operand counts. -/
def commandList : List (Nat × Nat) :=
  [(0x01, 0), (0x02, 0), (0x03, 1), (0x04, 0), (0x05, 0), (0x10, 5), (0x11, 2), (0x12, 1), (0x13, 1), (0x14, 1)] ++
  [(0x15, 1), (0x16, 2), (0x18, 1), (0x19, 1), (0x20, 1), (0x21, 1), (0x28, 3), (0x29, 1), (0x2A, 1), (0x30, 0)] ++
  [(0x31, 1), (0x32, 2), (0x40, 3), (0x41, 2), (0x42, 1), (0x43, 0), (0x44, 2), (0x45, 1)]

/-- The CLAIM of a master that asks for these operands: the options word carries 2 for WAIT and 1 for NOWAIT in bits 3
to 2, and 2 for WRITE and 1 for READ in bits 1 to 0 (section 11.4). -/
def ClaimOperands.command (c : ClaimOperands) (m : Master) : Instr :=
  .claim m (BitVec.ofNat 16 c.base) (BitVec.ofNat 16 c.size)
    (BitVec.ofNat 16 (4 * (if c.wait then 2 else 1) + (if c.mode = .write then 2 else 1)))
    (BitVec.ofNat 16 c.lease) (BitVec.ofNat 16 c.limit)

/-- The operands fit the words that carry them (R26). -/
abbrev ClaimOperands.carried (c : ClaimOperands) : Prop :=
  c.base < 65536 ∧ c.size < 65536 ∧ c.lease < 65536 ∧ c.limit < 65536

/-- The value tests of a claim pass (R26). -/
abbrev ClaimOperands.inRange (c : ClaimOperands) : Prop :=
  1 ≤ c.size ∧ c.base + c.size ≤ 16384 ∧ c.lease ≤ 60000 ∧ (c.wait = true → c.limit ≤ 60000)

/-- The band test and the bound tests of a claim pass (R27, R28). -/
abbrev State.claimFits (s : State) (m : Master) (c : ClaimOperands) : Prop :=
  (m ≠ 0 → 64 * s.band.effective ≤ c.base) ∧ (s.tally m).windows < 24 ∧
    (s.tally m).usage + c.size ≤ (s.session m).quota

/-- Nothing in force and nothing waiting conflicts with the claim (R29, conditions 1 and 2). -/
abbrev State.claimClear (s : State) (c : ClaimOperands) : Prop :=
  s.noneInForce (fun _ w => c.region.conflicts w.region = true) ∧ ∀ e ∈ s.queue, c.region.conflicts e.region = false

/-- This is the lowest-indexed FREE record (R7). -/
abbrev State.lowestFree (s : State) (i : RecIdx) : Prop :=
  (s.record i).window = none ∧ ∀ j, j < i → (s.record j).window ≠ none

/-- No record is FREE (R1). -/
abbrev State.tableFull (s : State) : Prop := ∀ i, (s.record i).window ≠ none

/-- The lease kind of a window issued now for a lease operand: SESSION for none, else TIMED (R7). -/
def State.issuedKind (s : State) : Option Nat → LeaseKind
  | none => .session
  | some n => .timed ⟨n, s.after n, false⟩

/-- The lease length a lease operand asks for (R26). -/
def leaseLength (lease : Nat) : Option Nat := if lease = 0 then none else some lease

/-- The newest four of a failure list with a record added (R58). -/
def newestFour (l : List Failure) (f : Failure) : List Failure := (l ++ [f]).drop ((l ++ [f]).length - 4)

/-- The fields of a span and a range of granules, in bytes: the range wholly contains the span (R100). -/
abbrev containsSpan (base size : Nat) (cadr : Address) (cspan : BitVec 6) : Prop :=
  1024 * base ≤ cadr.toNat ∧ cadr.toNat + cspan.toNat < 1024 * (base + size)

/-- The range overlaps the bytes from `first` to `last` (R100). -/
abbrev meetsBytes (base size first last : Nat) : Prop := first < 1024 * (base + size) ∧ 1024 * base ≤ last

/-! ### Sums over the window table -/

/-- The sizes of a master's SESSION and TIMED windows, summed (R14). -/
def State.usageOf (s : State) (m : Master) : Nat :=
  ((List.finRange 64).map fun i => (s.record i).window.elim 0 fun w =>
    if w.owner = m ∧ w.isStanding = false then w.size else 0).sum

/-- The number of a master's windows, LIVE or DRAINING (R14). -/
def State.windowsOf (s : State) (m : Master) : Nat := (s.recordsWhere fun _ w => decide (w.owner = m)).length

/-! ### The laws -/

/-- R13: no two windows in force conflict. -/
abbrev State.conflictLaw (s : State) : Prop :=
  ∀ i j : RecIdx, i ≠ j → ∀ v ∈ (s.record i).window, ∀ w ∈ (s.record j).window, v.region.conflicts w.region = false

/-- R1, R2, R47, R108, R65, R137: fields lie in the ranges their tables give. -/
abbrev State.rangeLaw (s : State) : Prop :=
  (∀ i : RecIdx, ∀ w ∈ (s.record i).window,
    (s.record i).generation ≠ 0 ∧ 1 ≤ w.size ∧ w.base + w.size ≤ 16384) ∧
  (∀ e ∈ s.queue, 1 ≤ e.size ∧ e.base + e.size ≤ 16384) ∧
  (∀ k : WatchIdx, ∀ w ∈ (s.watch k).watch, 1 ≤ w.size ∧ w.base + w.size ≤ 16384 ∧ w.hits ≤ 255) ∧
  (∀ m : Master, s.watchCount m ≤ 3 ∧ (s.failureList m).length ≤ 4) ∧
  (∀ m : Master, (s.session m).quota ≤ 16384 ∧ (s.session m).allowance ≤ 12) ∧
  s.band.committed ≤ 64 ∧ ∀ v ∈ s.band.pending, v ≤ 64

/-- R14, R15: the tallies are the sums over the table, and they stay within the quota and the limit of 24. -/
abbrev State.tallyLaw (s : State) : Prop :=
  ∀ m : Master, s.tally m = ⟨s.usageOf m, s.windowsOf m⟩ ∧ s.usageOf m ≤ (s.session m).quota ∧ s.windowsOf m ≤ 24

/-- R48, R49: the bounds of the queue, and no ticket twice. -/
abbrev State.queueLaw (s : State) : Prop :=
  s.queue.length ≤ 16 ∧ (s.queue.map fun e => (e.master, e.ticket)).Nodup ∧
  ∀ m : Master, (s.ticketsOf m).length ≤ 4 ∧ (0 : Word) ∉ s.ticketsOf m ∧
    (s.session m).ticketCounter ≠ 0 ∧ (s.session m).ticketCounter ∉ s.ticketsOf m

/-- Conditions 1 to 3 of R51 hold for the entry with this place in the queue. -/
abbrev State.grantable (s : State) (n : Fin s.queue.length) : Prop :=
  (∀ i : RecIdx, ∀ w ∈ (s.record i).window, s.queue[n].region.conflicts w.region = false) ∧
  (∀ o ∈ s.queue.take n.val, s.queue[n].region.conflicts o.region = false) ∧ 1 ≤ s.freeCount

/-- R51: the queue holds no grantable entry. -/
abbrev State.waitLaw (s : State) : Prop := ∀ n : Fin s.queue.length, ¬ s.grantable n

/-- R63, R72, R108: SESSION and TIMED windows, waiters and watches belong to masters whose sessions are OPEN. -/
abbrev State.ownerLaw (s : State) : Prop :=
  (∀ i : RecIdx, ∀ w ∈ (s.record i).window, w.isStanding = false → (s.session w.owner).state.isOpen = true) ∧
  (∀ e ∈ s.queue, (s.session e.master).state.isOpen = true) ∧
  ∀ k : WatchIdx, ∀ w ∈ (s.watch k).watch, (s.session w.owner).state.isOpen = true

/-- The slot a window stands in. -/
def Window.slot (w : Window) : Option SlotIdx := match w.kind with
  | .standing k => some k
  | .session | .timed _ => none

/-- R125: a slot is bound to a record exactly when the record's window stands in the slot, and a slot marked WRITE_DUE
is bound. -/
abbrev State.bindingLaw (s : State) : Prop :=
  (∀ i : RecIdx, ∀ k : SlotIdx, ((s.record i).window.bind Window.slot = some k ↔ (s.slot k).binding = some i)) ∧
  ∀ k : SlotIdx, (s.slot k).mark = .writeDue → (s.slot k).binding ≠ none

/-- What R127 and R142 ask of the engine's state: it reads in STARTING only and acts outside it only; with the supply
up, an IDLE engine outside STARTING leaves no mark and no band write due; the value being written to the band cell is
the pending band unless a newer one is due. -/
def Engine.lawful (s : State) : Engine → Bool
  | .idle => decide (s.mode ≠ .starting → s.pins.supply = true →
      s.band.writeDue = false ∧ ∀ k : SlotIdx, (s.slot k).mark = .none)
  | .reading _ => decide (s.mode = .starting)
  | .erasingForWrite _ _ _ | .programmingSlot _ _ _ | .erasingForClear _ => decide (s.mode ≠ .starting)
  | .erasingBand v | .programmingBand v =>
    decide (s.mode ≠ .starting ∧ v ≤ 64 ∧ (s.band.writeDue = false → s.band.pending = some v))

/-- The value a VALID band cell holds (R137). -/
def BandCell.value : BandCell → Option Nat
  | .valid v => some v
  | .damaged => none

/-- R127, R137, R142: the engine's state, a due band write has a value, and the cell's value is in range. -/
abbrev State.engineLaw (s : State) : Prop :=
  s.engine.lawful s = true ∧ (s.band.writeDue = true → s.band.pending ≠ none) ∧ ∀ v ∈ s.band.cell.value, v ≤ 64

/-- R144 and its supports: no window of a master other than 0 overlaps the committed band, and no waiter of one
overlaps the effective claim band. -/
abbrev State.bandLaw (s : State) : Prop :=
  (∀ i : RecIdx, ∀ w ∈ (s.record i).window, w.owner ≠ 0 → 64 * s.band.committed ≤ w.base) ∧
  ∀ e ∈ s.queue, e.master ≠ 0 → 64 * s.band.effective ≤ e.base

/-- R115, R117, R119: a NOTE line is at its level, the deny latch is full exactly when DENIED is set, an empty latch
has no more mark, and the records of masters 1 to 5 show neither PEERLAPSE nor STARTLOSS. -/
abbrev State.noticeLaw (s : State) : Prop :=
  ∀ m : Master,
    (s.notice m).line = (s.notice m).level s.mode ∧
    (s.notice m).latch.isSome = (s.notice m).has .denied ∧
    ((s.notice m).latch = none → (s.notice m).more = false) ∧
    (m ≠ 0 → (s.notice m).flags &&& 0xC00 = 0 ∧ (s.notice m).enables &&& 0xC00 = 0)

/-- A deadline lies no further ahead than the longest a request can set (R76). -/
abbrev State.ahead (s : State) (t : Tick) : Prop := s.ticksTo t ≤ 60000

/-- A session's period is in range and its deadline ahead (R65, R76). -/
def SessionState.timely (s : State) : SessionState → Bool
  | .opened period deadline => decide (10 ≤ period ∧ period ≤ 60000 ∧ s.ahead deadline)
  | .closed | .lapsed => true

/-- A lease's length is in range and its deadline ahead (R1, R76). -/
def LeaseKind.timely (s : State) : LeaseKind → Bool
  | .timed l => decide (1 ≤ l.length ∧ l.length ≤ 60000 ∧ s.ahead l.deadline)
  | .session | .standing _ => true

/-- R76, R77: no deadline has been passed, and none lies more than 60000 ticks ahead; lengths and periods are in
range. -/
abbrev State.deadlineLaw (s : State) : Prop :=
  (∀ m : Master, (s.session m).state.timely s = true) ∧
  (∀ i : RecIdx, ∀ w ∈ (s.record i).window, w.kind.timely s = true ∧ ∀ d ∈ w.drain, s.ahead d.deadline) ∧
  ∀ e ∈ s.queue, e.deadline.all (fun d => decide (s.ahead d)) = true ∧ ∀ n ∈ e.length, 1 ≤ n ∧ n ≤ 60000

/-- The check port shows its idle values while READY, and CACK while ANSWERING (R97, R98). -/
def CheckUnit.lawful (c : CheckUnit) : Bool := match c.phase with
  | .ready => c.out == CheckOut.idle
  | .answering _ => c.out.cack

/-- R97, R157, R158, R164: the check port shows the idle values while READY, a reply has at most 31 results, the frame
buffer holds at most ten words, LDO is driven exactly while LSEL is low, and a link that receives has its LSEL low. -/
abbrev State.portLaw (s : State) : Prop :=
  s.check.lawful = true ∧
  ∀ m : Master, (∀ r ∈ (s.link m).reply, r.results.length ≤ 31) ∧ (s.link m).buffer.length ≤ 10 ∧
    (s.pins.supply = true → (s.link m).ldo.isSome = (s.link m).lselLow ∧
      ((s.link m).phase = .receiving → (s.link m).lselLow = true))

/-- How many slots the start-up read has decided, when the engine reads. -/
def Engine.slotsRead : Engine → Nat
  | .reading (.slot k) => k.val
  | _ => 0

/-- R76, R147 to R153: the clock holds no tick exactly in STARTING, and a part in STARTING holds no session, waiter or
watch, no window but the restored ones, and no report but that of the cells read; the flag decides the mode. -/
abbrev State.startLaw (s : State) : Prop :=
  (s.clock = none ↔ s.mode = .starting) ∧
  (s.startUp.maintenance = true ↔ s.mode = .maintenance) ∧
  (s.mode = .maintenance → s.startUp.cause ≠ .soft) ∧
  (s.startUp.damaged &&& s.startUp.rejected = 0) ∧
  (s.startUp.hold = true → s.mode = .starting ∧ s.engine = .idle ∧ s.pins.supply = true) ∧
  (s.mode = .starting → s.queue = [] ∧
    (∀ m : Master, (s.session m).state = .closed ∧ (s.notice m).flags = 0 ∧ (s.notice m).enables = 0) ∧
    (∀ k : WatchIdx, s.watch k = .free) ∧
    (∀ i : RecIdx, ∀ w ∈ (s.record i).window, w.isStanding = true ∧ w.drain = none) ∧
    (s.pins.supply = true →
      (∀ i : RecIdx, s.engine.slotsRead ≤ i.val → (s.record i).holding = .free none ∧ (s.record i).generation = 0) ∧
      ∀ k : SlotIdx, s.engine.slotsRead ≤ k.val →
        (s.slot k).binding = none ∧ (s.slot k).mark = .none ∧ s.startUp.damaged.getLsbD k.val = false ∧
          s.startUp.rejected.getLsbD k.val = false))

/-- Every law of the block. -/
abbrev State.safe (s : State) : Prop :=
  s.conflictLaw ∧ s.rangeLaw ∧ s.tallyLaw ∧ s.queueLaw ∧ s.waitLaw ∧ s.ownerLaw ∧ s.bindingLaw ∧ s.engineLaw ∧
    s.bandLaw ∧ s.noticeLaw ∧ s.deadlineLaw ∧ s.portLaw ∧ s.startLaw

end Sys2Proof.Machine
end

