-- ==== Sys2Proof/Certificates/Slice0/Obligations.lean ====
section
/-! DEFINITION. The statements for the provers, chapter by chapter: what every command does, what the shared operations
do, and the laws every step keeps. -/

open Sys2Proof Sys2Proof.Machine

/-! ### The machine -/

/-- A step takes the command at the front of the queue and runs it on the state with the queue's rest. -/
def Obligations.StepRunsFrontCommand : Prop :=
  ∀ (c : Instr) (rest : List Instr) (s : State),
    step { s with pending := c :: rest } = exec c { s with pending := rest }

/-- Every step answers a next state and takes one command off the queue; on an empty queue the block idles. The idling
is the model's choice (log entry 8), and so is that no command stops the block (log entry 5). -/
def Obligations.EveryStepAnswers : Prop :=
  ∀ s : State, ∃ t, step s = .next t ∧ t.pending = s.pending.tail ∧ (s.pending = [] → t = s)

/-! ### What all requests share (chapters 2, 4, 5, 11) -/

/-- A request moves the deadline of an OPEN sender's session to now + period, whatever its reply; the state of no other
session changes. CLOSE, EVICT and RESTART, whose own effect then ends sessions, are left to their own statements. -/
def Obligations.RequestRenewsSession : Prop :=
  ∀ (i : Instr) (s : State) (m : Master) (code : Nat) (ops : List Word) (period : Nat) (deadline : Tick),
    requestParts i = some (m, code, ops) → s.pins.supply = true →
    i ≠ .close m → (∀ w, i ≠ .evict m w) → i ≠ .restart m →
    (s.session m).state = .opened period deadline →
    ∃ t, exec i s = .next t ∧ (t.session m).state = .opened period (s.after period) ∧
      ∀ k, k ≠ m → (t.session k).state = (s.session k).state

/-- A reply other than OK, QUEUED and GRANTED leaves everything as it was but the sender's session deadline and the
reply slot; every request but a RESTART is answered, and a reply echoes the command code. -/
def Obligations.RefusalChangesNothing : Prop :=
  ∀ (i : Instr) (s : State) (m : Master) (code : Nat) (ops : List Word),
    requestParts i = some (m, code, ops) → s.pins.supply = true →
    ∃ t, exec i s = .next t ∧ (i ≠ .restart m → (t.link m).reply ≠ none) ∧
      ∀ r, (t.link m).reply = some r →
        r.echo = BitVec.ofNat 8 code ∧
        (r.status ≠ .ok → r.status ≠ .queued → r.status ≠ .granted → t = (s.renewSession m).placeReply m r)

/-- The part-mode tests: NOT_READY to every request in STARTING; MAINTENANCE to masters 1 to 5 in MAINTENANCE, but for
STATUS, NOP and the notice requests, which are answered OK in every mode but STARTING. -/
def Obligations.PartModeTests : Prop :=
  ∀ (i : Instr) (s : State) (m : Master) (code : Nat) (ops : List Word),
    requestParts i = some (m, code, ops) → s.pins.supply = true → i.wellFormed = true →
    (s.mode = .starting → refusedWith i s m (BitVec.ofNat 8 code) .notReady) ∧
    (s.mode = .maintenance → m ≠ 0 → i.inMaintenance = false →
      refusedWith i s m (BitVec.ofNat 8 code) .maintenance) ∧
    (s.mode ≠ .starting → i.inMaintenance = true →
      ∃ u results, answered i s m (BitVec.ofNat 8 code) u .ok results)

/-- The session test of the requests in the left column of R68's table, and PRIVILEGED to masters 1 to 5 for the
supervisor requests, ahead of it. -/
def Obligations.SessionTests : Prop :=
  ∀ (i : Instr) (s : State) (m : Master) (code : Nat) (ops : List Word),
    requestParts i = some (m, code, ops) → s.takes m → i.wellFormed = true →
    (i.testsSession = true → (i.isSupervisor = true → m = 0) →
      ((s.session m).state = .closed → refusedWith i s m (BitVec.ofNat 8 code) .noSession) ∧
      ((s.session m).state = .lapsed → refusedWith i s m (BitVec.ofNat 8 code) .lapsed)) ∧
    (i.isSupervisor = true → m ≠ 0 → refusedWith i s m (BitVec.ofNat 8 code) .privileged)

/-- The format tests: a request that breaks its encoding is answered BAD_OPERAND in every mode and session state, and
which words keep their encoding, field by field. -/
def Obligations.FormatTests : Prop :=
  (∀ (i : Instr) (s : State) (m : Master) (code : Nat) (ops : List Word),
    requestParts i = some (m, code, ops) → s.pins.supply = true → i.wellFormed = false →
    refusedWith i s m (BitVec.ofNat 8 code) .badOperand) ∧
  (∀ (m : Master) (h x : Word), let kept := h.getLsbD 7 = false ∧ h.getLsbD 6 = false ∧ 256 ≤ h.toNat
    ∀ i ∈ [Instr.renew m h x, .release m h, .downgrade m h, .upgrade m h, .query m h, .stand m h, .unstand m h,
      .revoke m h x], i.wellFormed = true ↔ kept) ∧
  (∀ (m : Master) (t : Word), ∀ i ∈ [Instr.cancel m t, .ticket m t], i.wellFormed = true ↔ t ≠ 0) ∧
  (∀ (m : Master) (b n o l w : Word), (Instr.claim m b n o l w).wellFormed = true ↔
    (o.toNat % 4 = 1 ∨ o.toNat % 4 = 2) ∧ (o.toNat / 4 = 1 ∨ o.toNat / 4 = 2)) ∧
  (∀ (m : Master) (b n k : Word), (Instr.watchSet m b n k).wellFormed = true ↔ k = 1 ∨ k = 2 ∨ k = 3) ∧
  (∀ (m : Master) (f : Word), (Instr.noticeAck m f).wellFormed = true ↔ f.toNat < 4096) ∧
  ∀ (m : Master) (f l : Word), (Instr.noticeEnable m f l).wellFormed = true ↔ f.toNat < 4096 ∧ (l = 0 ∨ l = 1)

/-- A handle is resolved before the request's own tests: STALE when the generations differ, GONE with the kept cause
(0 for none) when they agree and the record is FREE; and the cause codes of section 11.4. -/
def Obligations.HandleTests : Prop :=
  (∀ (i : Instr) (s : State) (m : Master) (code : Nat) (ops : List Word) (h : Word),
    requestParts i = some (m, code, ops) → s.takes m → i.wellFormed = true →
    (i.testsSession = true → (s.session m).state.isOpen = true) → (i.isSupervisor = true → m = 0) →
    i.handleInRange = some h →
    ((s.record (handleIndex h)).generation ≠ handleGeneration h →
      refusedWith i s m (BitVec.ofNat 8 code) .stale) ∧
    ((s.record (handleIndex h)).generation = handleGeneration h →
      ∀ cause, (s.record (handleIndex h)).holding = .free cause →
        answered i s m (BitVec.ofNat 8 code) (s.renewSession m) .gone
          [BitVec.ofNat 16 (cause.elim 0 RetireCause.code)])) ∧
  [RetireCause.released, .expired, .lapsed, .closed, .evicted, .revoked, .banded, .purged].map RetireCause.code =
    [1, 2, 3, 4, 5, 6, 7, 8]

/-! ### Links and frames (chapter 11) -/

/-- Every request, with every value of its operands, is read back from the frame that carries it, with any number of
read words after it, from the bits of the link up. -/
def Obligations.FrameRoundTrip : Prop :=
  ∀ (i : Instr) (m : Master) (code : Nat) (ops : List Word) (n : Nat),
    requestParts i = some (m, code, ops) →
    wordsOfBits ((frameWords code ops ++ List.replicate n 0).flatMap wordBits) =
      frameWords code ops ++ List.replicate n 0 ∧
    checkFrame m ((frameWords code ops ++ List.replicate n 0).take 10) (ops.length + 2 + n)
      (((frameWords code ops ++ List.replicate n 0).drop 10).any fun w => w != 0) = .request i

/-- A frame that carries a request is that request, taken on the link as the frame's end leaves it: IDLE, the first ten
words stored, the words counted, the reply slot empty, LDO undriven after one level at LSEL's fall and one for each
pulse. Bits of an incomplete last word are discarded. That the buffer is filled at the frame's end is log entry 3. -/
def Obligations.FrameEndTakesRequest : Prop :=
  ∀ (i : Instr) (s : State) (m : Master) (code : Nat) (ops : List Word) (n : Nat) (tail : List Bool)
    (ignored : Nat),
    requestParts i = some (m, code, ops) → s.pins.supply = true → (s.link m).phase = .receiving →
    tail.length < 16 →
    let words := frameWords code ops ++ List.replicate n 0
    let bits := words.flatMap wordBits ++ tail
    let ended := s.setLink m { s.link m with
      phase := .idle, buffer := words.take 10, wordCount := ops.length + 2 + n, lateNonzero := false, reply := none,
      ldo := none, ldoBits := shiftedOut (s.link m).shiftOut (bits.length + 1),
      ldoRead := shiftedOut (s.link m).shiftOut bits.length, lselLow := false }
    exec (.frameEnd m ⟨bits, ignored⟩) s = exec i ended ∧ ∃ t, exec (.frameEnd m ⟨bits, ignored⟩) s = .next t

/-- The tests on a frame of one or more words: FRAME_ERROR (overlong, short, check, length), which renews no session;
UNKNOWN for a code that is not in the list and BAD_OPERAND for a command word that breaks its encoding, which renew an
OPEN one. The header echoes bits 15 to 8 of the first word. The link is left as every frame of one or more words
leaves it (FrameEndTakesRequest). -/
def Obligations.FrameEndErrors : Prop :=
  ∀ (s : State) (m : Master) (bits : List Bool) (ignored : Nat) (first : Word) (rest : List Word),
    s.pins.supply = true → (s.link m).phase = .receiving → wordsOfBits bits = first :: rest →
    let words := first :: rest
    let n := first.toNat % 16
    let code := first.toNat / 256
    let ended := s.setLink m { s.link m with
      phase := .idle, buffer := words.take 10, wordCount := words.length,
      lateNonzero := decide (∃ w ∈ words.drop 10, w ≠ 0), reply := none,
      ldo := none, ldoBits := shiftedOut (s.link m).shiftOut (bits.length + 1),
      ldoRead := shiftedOut (s.link m).shiftOut bits.length, lselLow := false }
    let malformed := 8 < n ∨ words.length < n + 2 ∨
      words[n + 1]? ≠ some (~~~ ((words.take (n + 1)).foldl (· + ·) 0)) ∨ ∃ w ∈ words.drop (n + 2), w ≠ 0
    (malformed →
      exec (.frameEnd m ⟨bits, ignored⟩) s = .next (ended.placeReply m ⟨.frameError, BitVec.ofNat 8 code, []⟩)) ∧
    (¬ malformed → code ∉ commandList.map Prod.fst →
      exec (.frameEnd m ⟨bits, ignored⟩) s =
        .next ((ended.renewSession m).placeReply m ⟨.unknown, BitVec.ofNat 8 code, []⟩)) ∧
    (¬ malformed → code ∈ commandList.map Prod.fst → (first.toNat / 16 % 16 ≠ 0 ∨ (code, n) ∉ commandList) →
      exec (.frameEnd m ⟨bits, ignored⟩) s =
        .next ((ended.renewSession m).placeReply m ⟨.badOperand, BitVec.ofNat 8 code, []⟩))

/-- LSEL, LDO and the reply slot: a fall starts a frame and drives the first bit, a frame of no complete word changes
nothing but the link state, a rise in IDLE takes nothing, LDO is undriven with LSEL high, the levels it gave are the
bits of the reply as the slot held it and zeros after them, or after the start that voided the frame, words are assembled most significant bit first, and the
words of a reply are header, count, results and check word. That LDO's levels are recorded when the frame ends is the
model's choice (log entry 19), and so is that a fall in IDLE starts a frame whatever level of LSEL is recorded (log
entry 26). -/
def Obligations.LinkEdges : Prop :=
  (∀ (s : State) (m : Master), s.pins.supply = true → (s.link m).phase = .idle →
    let words := (s.link m).reply.elim [] Reply.words
    exec (.lselFall m) s = .next (s.setLink m { s.link m with
      phase := .receiving, buffer := [], wordCount := 0, lateNonzero := false, lselLow := true,
      shiftOut := words, ldo := some ((words.headD 0).getLsbD 15) })) ∧
  (∀ (s : State) (m : Master) (bits : List Bool) (ignored : Nat), s.pins.supply = true →
    (s.link m).phase = .receiving → bits.length < 16 →
    exec (.frameEnd m ⟨bits, ignored⟩) s = .next (s.setLink m { s.link m with
      phase := .idle, buffer := [], wordCount := 0, lateNonzero := false, lselLow := false,
      ldo := none, ldoBits := shiftedOut (s.link m).shiftOut (bits.length + 1),
      ldoRead := shiftedOut (s.link m).shiftOut bits.length })) ∧
  (∀ (s : State) (m : Master) (bits : List Bool) (ignored : Nat), s.pins.supply = true → (s.link m).phase = .idle →
    ((s.link m).lselLow = true → exec (.frameEnd m ⟨bits, ignored⟩) s = .next (s.setLink m { s.link m with
      lselLow := false, ldo := none,
      ldoBits := shiftedOut (s.link m).shiftOut (bits.length + 1) ++ List.replicate (ignored + 1) false,
      ldoRead := shiftedOut (s.link m).shiftOut bits.length ++ List.replicate ignored false })) ∧
    ((s.link m).lselLow = false → exec (.frameEnd m ⟨bits, ignored⟩) s = .next s)) ∧
  (∀ (words : List Word) (n : Nat), (shiftedOut words n).length = n ∧
    ∀ k, k < n → (shiftedOut words n)[k]? = some ((words.getD (k / 16) 0).getLsbD (15 - k % 16))) ∧
  (∀ bits : List Bool, (wordsOfBits bits).length = bits.length / 16 ∧
    ∀ k w, (wordsOfBits bits)[k]? = some w → ∀ j, j < 16 → bits[16 * k + j]? = some (w.getLsbD (15 - j))) ∧
  (∀ r : Reply, ∃ body : List Word,
    body = (BitVec.ofNat 8 r.status.code ++ r.echo) :: BitVec.ofNat 16 r.results.length :: r.results ∧
    r.words = body ++ [~~~ (body.foldl (· + ·) 0)]) ∧
  [Status.ok, .queued, .granted, .conflict, .noSession, .alreadyOpen, .lapsed, .badRange, .reserved, .quota,
      .limit].map Status.code = [0x01, 0x02, 0x03, 0x04, 0x05, 0x06, 0x07, 0x08, 0x09, 0x0A, 0x0B] ∧
  [Status.tableFull, .queueFull, .stale, .gone, .notOwner, .standing, .notStanding, .notTimed, .draining, .noSlot,
      .allowance].map Status.code = [0x0C, 0x0D, 0x0E, 0x0F, 0x10, 0x11, 0x12, 0x13, 0x14, 0x15, 0x16] ∧
  [Status.inUse, .narrow, .privileged, .notMaint, .maintenance, .notReady, .noWatch, .watchFull, .badOperand,
      .unknown, .frameError].map Status.code = [0x17, 0x18, 0x19, 0x1A, 0x1B, 0x1C, 0x1D, 0x1E, 0x1F, 0x20, 0x21]

/-! ### Sessions (chapter 4) -/

/-- NOP is answered OK in every session state, KEEPALIVE from an OPEN session, both with the renewal alone; OPEN by its
period and the session's state, with the state held before as its result. -/
def Obligations.SessionRequests : Prop :=
  (∀ (m : Master) (s : State), s.pins.supply = true → s.mode ≠ .starting →
    answered (.nop m) s m 0x01 (s.renewSession m) .ok []) ∧
  (∀ (m : Master) (s : State), s.takesOpen m → answered (.keepalive m) s m 0x05 (s.renewSession m) .ok []) ∧
  ∀ (m : Master) (period : Word) (s : State), s.takes m →
    (period.toNat < 10 ∨ 60000 < period.toNat → refusedWith (.openSession m period) s m 0x03 .badOperand) ∧
    (10 ≤ period.toNat → period.toNat ≤ 60000 →
      ((s.session m).state.isOpen = true → refusedWith (.openSession m period) s m 0x03 .alreadyOpen) ∧
      ((s.session m).state.isOpen = false → answered (.openSession m period) s m 0x03
        (s.setSession m { s.session m with state := .opened period.toNat (s.after period.toNat) }) .ok
        [if (s.session m).state = .lapsed then 1 else 0]))

/-- The session end: SESSION and TIMED windows of the master are retired with the cause, its waiters removed, its
watches freed, the record given its new state, and the grant scan run; nothing else is touched. -/
def Obligations.SessionEndEffect : Prop :=
  ∀ (s : State) (m : Master) (cause : RetireCause) (fail : Option FailCause) (after : SessionState),
    let t := s.endSession m cause fail after
    t.session m = { s.session m with state := after } ∧ (∀ k, k ≠ m → t.session k = s.session k) ∧
    (∀ i w, (s.record i).window = some w → w.owner ≠ m ∨ w.isStanding = true → t.record i = s.record i) ∧
    (∀ i w, (s.record i).window = some w → w.owner = m → w.isStanding = false →
      t.record i = ⟨(s.record i).generation, .free (some cause)⟩ ∨
      ∃ e ∈ s.queue, e.master ≠ m ∧
        t.record i = ⟨nextGeneration (s.record i).generation, .held (s.grantedWindow e)⟩) ∧
    t.queue.Sublist s.queue ∧ (∀ e ∈ t.queue, e.master ≠ m) ∧ t.waitLaw ∧
    (∀ k, t.watch k = match s.watch k with
      | .armed w => if w.owner = m then .free else .armed w
      | .free => .free) ∧
    (fail = none → t.failureList m = s.failureList m) ∧
    (∀ c, fail = some c → t.failureList m =
      ((s.queue.filter fun e => e.master = m).map fun e => Failure.mk e.ticket c).foldl newestFour (s.failureList m)) ∧
    (fail = none → cause.notice = none → t.notice m = s.notice m) ∧
    t.links = s.links ∧ t.clock = s.clock ∧ t.check = s.check ∧ t.slots = s.slots ∧ t.engine = s.engine ∧
    t.band = s.band ∧ t.startUp = s.startUp ∧ t.pins = s.pins

/-- CLOSE, EVICT and LAPSE by the session's state; a LAPSE of a session that is not OPEN does nothing. The results of
EVICT are the windows retired and the entries removed; RETIRED and WAITFAIL are raised for the evicted master exactly
when something of the kind was taken. -/
def Obligations.SessionEndCommands : Prop :=
  (∀ (m : Master) (s : State), s.takes m →
    ((s.session m).state.isOpen = true → answered (.close m) s m 0x04
      ((s.renewSession m).endSession m .closed none .closed) .ok []) ∧
    ((s.session m).state.isOpen = false → answered (.close m) s m 0x04
      (s.setSession m { s.session m with state := .closed }) .ok [])) ∧
  (∀ (target : Word) (s : State), s.takesOpen 0 →
    (6 ≤ target.toNat → refusedWith (.evict 0 target) s 0 0x42 .badOperand) ∧
    ∀ t : Master, target.toNat = t.val →
      ((s.session t).state.isOpen = true → answered (.evict 0 target) s 0 0x42
        ((s.renewSession 0).endSession t .evicted (some .evicted) .closed) .ok
        [BitVec.ofNat 16 ((List.finRange 64).countP fun i => (s.record i).window.any fun w =>
            decide (w.owner = t) && !w.isStanding),
          BitVec.ofNat 16 (s.queue.countP fun e => decide (e.master = t))]) ∧
      ((s.session t).state.isOpen = false → answered (.evict 0 target) s 0 0x42
        ((s.renewSession 0).setSession t { (s.renewSession 0).session t with state := .closed }) .ok [0, 0])) ∧
  (∀ (s : State) (t : Master), ((s.endSession t .evicted (some .evicted) .closed).notice t).flags =
    (s.notice t).flags |||
      (if s.recordsWhere (fun _ w => decide (w.owner = t) && !w.isStanding) = [] then 0 else Flag.retired.mask) |||
      (if s.queue.all fun e => decide (e.master ≠ t) then 0 else Flag.waitfail.mask)) ∧
  (∀ (m : Master) (s : State), s.pins.supply = true → (s.session m).state.isOpen = false →
    exec (.lapse m) s = .next s) ∧
  ∀ (m : Master) (s : State) (period : Nat) (deadline : Tick), s.pins.supply = true →
    (s.session m).state = .opened period deadline →
    (s.clock = some deadline → exec (.lapse m) s = .next (if m = 0 then
      (s.endSession m .lapsed none .lapsed).raise m .lapsed else
      ((s.endSession m .lapsed none .lapsed).raise m .lapsed).raise 0 .peerlapse)) ∧
    (s.clock ≠ some deadline → exec (.lapse m) s = .next s)

/-! ### Claims, renewals and releases (chapter 2) -/

/-- A claim that nothing stands against is granted at once into the lowest FREE record: the fields of R7, the owner's
tallies, and the new handle in the reply. -/
def Obligations.ClaimGranted : Prop :=
  ∀ (c : ClaimOperands) (m : Master) (s : State) (i : RecIdx), c.carried → s.takesOpen m → c.inRange →
    s.claimFits m c → s.claimClear c → s.lowestFree i →
    let generation : Byte := if (s.record i).generation = 255 then 1 else (s.record i).generation + 1
    answered (c.command m) s m 0x10
      (((s.renewSession m).setRecord i ⟨generation, .held
          ⟨m, c.base, c.size, c.mode, s.issuedKind (leaseLength c.lease), none, 0, false⟩⟩).setTally m
        ⟨(s.tally m).usage + c.size, (s.tally m).windows + 1⟩)
      .ok [generation ++ BitVec.ofNat 8 i.val]

/-- The refusals of a claim in their order: BAD_RANGE, BAD_OPERAND, RESERVED, LIMIT, QUOTA, and under NOWAIT CONFLICT
with the blocker index, or TABLE_FULL. -/
def Obligations.ClaimRefused : Prop :=
  ∀ (c : ClaimOperands) (m : Master) (s : State), c.carried → s.takesOpen m →
    let refused := refusedWith (c.command m) s m 0x10
    (c.size = 0 ∨ 16384 < c.base + c.size → refused .badRange) ∧
    (1 ≤ c.size → c.base + c.size ≤ 16384 → 60000 < c.lease ∨ (c.wait = true ∧ 60000 < c.limit) →
      refused .badOperand) ∧
    (c.inRange → m ≠ 0 → c.base < 64 * s.band.effective → refused .reserved) ∧
    (c.inRange → (m ≠ 0 → 64 * s.band.effective ≤ c.base) → 24 ≤ (s.tally m).windows → refused .limit) ∧
    (c.inRange → (m ≠ 0 → 64 * s.band.effective ≤ c.base) → (s.tally m).windows < 24 →
      (s.session m).quota < (s.tally m).usage + c.size → refused .quota) ∧
    (c.inRange → s.claimFits m c → c.wait = false →
      (∀ i, s.isLowest (fun _ w => c.region.conflicts w.region = true) i →
        answered (c.command m) s m 0x10 (s.renewSession m) .conflict [BitVec.ofNat 16 i.val]) ∧
      (s.noneInForce (fun _ w => c.region.conflicts w.region = true) →
        (∃ e ∈ s.queue, c.region.conflicts e.region = true) →
        answered (c.command m) s m 0x10 (s.renewSession m) .conflict [64]) ∧
      (s.claimClear c → s.tableFull → refused .tableFull))

/-- A WAIT claim that cannot be granted at once is queued with the sender's next ticket, and the counter goes on to the
next ticket that is not in use, passing over those in use one by one; QUEUE_FULL with 16 entries, or 4 of the
sender's. -/
def Obligations.ClaimQueued : Prop :=
  ∀ (c : ClaimOperands) (m : Master) (s : State), c.carried → s.takesOpen m → c.inRange → s.claimFits m c →
    c.wait = true → (¬ s.claimClear c ∨ s.tableFull) →
    let ticket := (s.session m).ticketCounter
    (16 ≤ s.queue.length ∨ 4 ≤ s.queue.countP (fun e => decide (e.master = m)) →
      refusedWith (c.command m) s m 0x10 .queueFull) ∧
    (s.queue.length < 16 → s.queue.countP (fun e => decide (e.master = m)) < 4 →
      ∃ u next, answered (c.command m) s m 0x10 u .queued [ticket] ∧
        u = ((s.renewSession m).setQueue (s.queue ++ [⟨m, ticket, c.base, c.size, c.mode, leaseLength c.lease,
            if c.limit = 0 then none else some (s.after c.limit)⟩])).setSession m
          { (s.renewSession m).session m with ticketCounter := next } ∧
        next ≠ 0 ∧ (∀ e ∈ u.queue, e.master = m → e.ticket ≠ next) ∧
        let later := fun n : Nat => (fun t : Word => if t = 65535 then 1 else t + 1)^[n + 1] ticket
        ∃ n, next = later n ∧ ∀ k, k < n → ∃ e ∈ u.queue, e.master = m ∧ e.ticket = later k)

/-- RENEW: BAD_OPERAND over 60000 ticks, then its own tests in order, then the new deadline and length, the warned mark
and the touched flag cleared, and the ticks remaining as the result. -/
def Obligations.RenewRequest : Prop :=
  ∀ (m : Master) (h ticks : Word) (s : State), s.takesOpen m → handleFormatOk h = true →
    (60000 < ticks.toNat → refusedWith (.renew m h ticks) s m 0x11 .badOperand) ∧
    ∀ w, ticks.toNat ≤ 60000 → s.names h w →
      (w.owner ≠ m → refusedWith (.renew m h ticks) s m 0x11 .notOwner) ∧
      (w.owner = m → w.drain ≠ none → refusedWith (.renew m h ticks) s m 0x11 .draining) ∧
      (w.owner = m → w.drain = none → (∀ l, w.kind ≠ .timed l) →
        refusedWith (.renew m h ticks) s m 0x11 .notTimed) ∧
      ∀ l, w.owner = m → w.drain = none → w.kind = .timed l →
        let n := if ticks = 0 then l.length else ticks.toNat
        answered (.renew m h ticks) s m 0x11
          ((s.renewSession m).setRecord (handleIndex h) ⟨handleGeneration h,
            .held { w with kind := .timed ⟨n, s.after n, false⟩, touched := false }⟩)
          .ok [BitVec.ofNat 16 n]

/-- RELEASE: NOT_OWNER, STANDING, else the retire procedure with cause RELEASED and the grant scan. -/
def Obligations.ReleaseRequest : Prop :=
  ∀ (m : Master) (h : Word) (s : State) (w : Window), s.takesOpen m → handleFormatOk h = true →
    s.names h w →
    (w.owner ≠ m → refusedWith (.release m h) s m 0x12 .notOwner) ∧
    (w.owner = m → w.isStanding = true → refusedWith (.release m h) s m 0x12 .standing) ∧
    (w.owner = m → w.isStanding = false → answered (.release m h) s m 0x12
      ((s.renewSession m).retire .released (handleIndex h)).grantScan .ok [])

/-- DOWNGRADE and UPGRADE: their tests in order, the mode changed with every other field kept, the slot of a STANDING
window marked for its rewrite, and for DOWNGRADE the grant scan. -/
def Obligations.ModeRequests : Prop :=
  ∀ (m : Master) (h : Word) (s : State) (w : Window), s.takesOpen m → handleFormatOk h = true →
    s.names h w →
    let changed := fun mode => ((s.renewSession m).setRecord (handleIndex h)
      ⟨handleGeneration h, .held { w with mode := mode }⟩).markRewriteOf w
    (w.owner ≠ m → refusedWith (.downgrade m h) s m 0x13 .notOwner ∧ refusedWith (.upgrade m h) s m 0x14 .notOwner) ∧
    (w.owner = m →
      (w.mode = .read → answered (.downgrade m h) s m 0x13 (s.renewSession m) .ok []) ∧
      (w.mode = .write → answered (.downgrade m h) s m 0x13 (changed .read).grantScan.kickEngine .ok []) ∧
      (w.drain ≠ none → refusedWith (.upgrade m h) s m 0x14 .draining) ∧
      (w.drain = none → w.mode = .write → answered (.upgrade m h) s m 0x14 (s.renewSession m) .ok []) ∧
      (w.drain = none → w.mode = .read →
        let other := fun (j : RecIdx) (v : Window) => j ≠ handleIndex h ∧ w.region.overlaps v.region = true
        (∀ j, s.isLowest other j →
          answered (.upgrade m h) s m 0x14 (s.renewSession m) .conflict [BitVec.ofNat 16 j.val]) ∧
        (s.noneInForce other → (∃ e ∈ s.queue, w.region.overlaps e.region = true) →
          answered (.upgrade m h) s m 0x14 (s.renewSession m) .conflict [64]) ∧
        (s.noneInForce other → (∀ e ∈ s.queue, w.region.overlaps e.region = false) →
          answered (.upgrade m h) s m 0x14 (changed .write).kickEngine .ok [])))

/-- QUERY is answered in every session state with the summary and the origin ticket, and clears the touched flag; what
the summary's words carry, the remaining ticks, the persistence and the codes included. That the remaining ticks are 0
on the tick a deadline is reached, before its expiry is taken, is the model's choice (log entry 28). -/
def Obligations.QueryReply : Prop :=
  (∀ (m : Master) (h : Word) (s : State) (w : Window), s.takes m → handleFormatOk h = true →
    s.names h w → answered (.query m h) s m 0x15
      ((s.renewSession m).setRecord (handleIndex h) ⟨handleGeneration h, .held { w with touched := false }⟩)
      .ok (s.summary (handleIndex h) w ++ [w.originTicket])) ∧
  (∀ (s : State) (i : RecIdx) (w : Window), s.summary i w =
    [(s.record i).generation ++ BitVec.ofNat 8 i.val, BitVec.ofNat 16 w.base, BitVec.ofNat 16 w.size,
      0#5 ++ BitVec.ofNat 3 (s.persistence w).code ++ BitVec.ofBool w.touched ++ BitVec.ofBool w.drain.isSome ++
        BitVec.ofNat 2 w.kind.code ++ BitVec.ofBool (decide (w.mode = .write)) ++ BitVec.ofNat 3 w.owner.val,
      BitVec.ofNat 16 (s.remaining w)]) ∧
  (∀ (s : State) (w : Window) (l : Lease) (d : Drain),
    (w.drain = none → w.kind = .timed l → s.remaining w = s.ticksTo l.deadline) ∧
    (w.drain = none → (∀ l, w.kind ≠ .timed l) → s.remaining w = 0) ∧
    (w.drain = some d → (∀ l, w.kind ≠ .timed l) → s.remaining w = s.ticksTo d.deadline) ∧
    (w.drain = some d → w.kind = .timed l → s.remaining w = min (s.ticksTo l.deadline) (s.ticksTo d.deadline))) ∧
  ([Persistence.none, .queued, .writing, .stored, .clearing].map Persistence.code = [0, 1, 2, 3, 4] ∧
    LeaseKind.session.code = 1 ∧ (∀ l, (LeaseKind.timed l).code = 2) ∧ ∀ k, (LeaseKind.standing k).code = 3) ∧
  (∀ (s : State) (w : Window), w.isStanding = false → s.persistence w = .none) ∧
  ∀ (s : State) (w : Window) (k : SlotIdx), w.kind = .standing k →
    let x := s.slot k
    let work := s.engine.workOn k
    (x.mark = .clearDue ∨ work = some .clear → s.persistence w = .clearing) ∧
    (x.content = .blank → x.mark = .none → work = none → x.binding ≠ none → s.persistence w = .clearing) ∧
    (x.mark = .writeDue → work = none → s.persistence w = .queued) ∧
    (x.mark ≠ .clearDue → work = some .write → s.persistence w = .writing) ∧
    (∀ image, x.content = .valid image → x.mark = .none → work = none → s.persistence w = .stored)

/-- LIST: its tests in order, and in every session state the continue index and the summaries of the first six of the
target's windows from the starting index on; nothing changes but the sender's session deadline. -/
def Obligations.ListReply : Prop :=
  ∀ (m : Master) (start target : Word) (s : State), s.takes m →
    (64 < start.toNat ∨ 6 ≤ target.toNat → refusedWith (.list m start target) s m 0x16 .badOperand) ∧
    ∀ t : Master, start.toNat ≤ 64 → target.toNat = t.val →
      (t ≠ m → m ≠ 0 → refusedWith (.list m start target) s m 0x16 .privileged) ∧
      (t = m ∨ m = 0 →
        let owned := (List.finRange 64).filter fun i =>
          decide (start.toNat ≤ i.val) && (s.record i).window.any fun w => decide (w.owner = t)
        answered (.list m start target) s m 0x16 (s.renewSession m) .ok
          (BitVec.ofNat 16 (if h : 5 < owned.length then (owned[5]).val + 1 else 64) ::
            (owned.take 6).flatMap fun i => (s.record i).window.elim [] (s.summary i)))

/-! ### The wait queue (chapter 3) -/

/-- CANCEL and TICKET by the search of the queue, the window table and the failure list. CANCEL of a waiting entry
removes it with no notice and no failure record and runs the grant scan. The codes of the failure causes are those of
section 11.4. That an entry still queued on its deadline's tick shows 0 remaining ticks is the model's choice (log
entry 28). -/
def Obligations.TicketRequests : Prop :=
  [FailCause.timeout, .quota, .limit, .banded, .evicted].map FailCause.code = [9, 10, 11, 7, 5] ∧
  ∀ (m : Master) (t : Word) (s : State), s.takes m → t ≠ 0 →
    let r := s.renewSession m
    let isOpen := (s.session m).state.isOpen = true
    let mine := fun e : Waiter => decide (e.master = m) && decide (e.ticket = t)
    let granted := fun (_ : RecIdx) (w : Window) => w.owner = m ∧ w.originTicket = t
    (∀ older e younger, s.queue = older ++ e :: younger → mine e = true → older.any mine = false →
      (isOpen → answered (.cancel m t) s m 0x18
        (r.setQueue (s.queue.filter fun e => !mine e)).grantScan .ok []) ∧
      answered (.ticket m t) s m 0x19 r .queued
        [BitVec.ofNat 16 (older.length + 1), BitVec.ofNat 16 (e.deadline.elim 0 s.ticksTo)]) ∧
    (s.queue.any mine = false →
      (∀ i, s.isLowest granted i →
        (isOpen → answered (.cancel m t) s m 0x18 r .granted [(s.record i).generation ++ BitVec.ofNat 8 i.val]) ∧
        answered (.ticket m t) s m 0x19 r .granted [(s.record i).generation ++ BitVec.ofNat 8 i.val]) ∧
      (s.noneInForce granted →
        (∀ old f new, s.failureList m = old ++ f :: new → f.ticket = t → (∀ g ∈ new, g.ticket ≠ t) →
          (isOpen → answered (.cancel m t) s m 0x18 r .gone [BitVec.ofNat 16 f.cause.code]) ∧
          answered (.ticket m t) s m 0x19 r .gone [BitVec.ofNat 16 f.cause.code]) ∧
        ((∀ f ∈ s.failureList m, f.ticket ≠ t) →
          (isOpen → answered (.cancel m t) s m 0x18 r .gone [0]) ∧
          answered (.ticket m t) s m 0x19 r .gone [0])))

/-- The walk of the grant scan, entry by entry: it ends with no FREE record; an entry held back stays; a grantable one
is granted into the lowest FREE record, with GRANT, or removed with WAITFAIL LIMIT or QUOTA. -/
def Obligations.GrantScanWalk : Prop :=
  (∀ s : State, s.grantScan = scanFrom [] s.queue s) ∧
  (∀ (older : List Waiter) (s : State), scanFrom older [] s = s.setQueue older) ∧
  (∀ (s : State) (c : FailCause) (e : Waiter), s.waitFail c e =
    (s.setFailureList e.master (newestFour (s.failureList e.master) ⟨e.ticket, c⟩)).raise e.master .waitfail) ∧
  ∀ (older rest : List Waiter) (e : Waiter) (s : State),
    let blocked := (∃ i w, (s.record i).window = some w ∧ e.region.conflicts w.region = true) ∨
      ∃ o ∈ older, e.region.conflicts o.region = true
    (s.tableFull → scanFrom older (e :: rest) s = s.setQueue (older ++ e :: rest)) ∧
    ∀ i, s.lowestFree i →
      (blocked → scanFrom older (e :: rest) s = scanFrom (older ++ [e]) rest s) ∧
      (¬ blocked → 24 ≤ (s.tally e.master).windows →
        scanFrom older (e :: rest) s = scanFrom older rest (s.waitFail .limit e)) ∧
      (¬ blocked → (s.tally e.master).windows < 24 →
        (s.session e.master).quota < (s.tally e.master).usage + e.size →
        scanFrom older (e :: rest) s = scanFrom older rest (s.waitFail .quota e)) ∧
      (¬ blocked → (s.tally e.master).windows < 24 →
        (s.tally e.master).usage + e.size ≤ (s.session e.master).quota →
        scanFrom older (e :: rest) s = scanFrom older rest
          (((s.setRecord i ⟨if (s.record i).generation = 255 then 1 else (s.record i).generation + 1,
              .held ⟨e.master, e.base, e.size, e.mode, s.issuedKind e.length, none, e.ticket, false⟩⟩).setTally e.master
            ⟨(s.tally e.master).usage + e.size, (s.tally e.master).windows + 1⟩).raise e.master .grant))

/-- The grant scan leaves no grantable entry in the queue. -/
def Obligations.GrantScanLeavesNone : Prop := ∀ s : State, s.grantScan.waitLaw

/-- What the grant scan leaves alone: windows in force, the order of the entries it leaves, the failure list, tallies and
notices of a master with no entry, and everything that is not the table, the queue, a failure list or a notice. -/
def Obligations.GrantScanFrame : Prop :=
  ∀ s : State, let t := s.grantScan
    t.queue.Sublist s.queue ∧
    (∀ i, (s.record i).window ≠ none → t.record i = s.record i) ∧
    (∀ i, (s.record i).window = none → t.record i = s.record i ∨
      ∃ e ∈ s.queue, t.record i = ⟨if (s.record i).generation = 255 then 1 else (s.record i).generation + 1,
        .held ⟨e.master, e.base, e.size, e.mode, s.issuedKind e.length, none, e.ticket, false⟩⟩) ∧
    (∀ m, (∀ e ∈ s.queue, e.master ≠ m) →
      t.tally m = s.tally m ∧ t.failureList m = s.failureList m ∧ t.notice m = s.notice m) ∧
    t.links = s.links ∧ t.sessions = s.sessions ∧ t.clock = s.clock ∧ t.check = s.check ∧ t.watches = s.watches ∧
    t.slots = s.slots ∧ t.engine = s.engine ∧ t.band = s.band ∧ t.startUp = s.startUp ∧ t.pins = s.pins

/-! ### Supervisor control (chapters 5, 9, 10) -/

/-- QUOTA: BAD_OPERAND, IN_USE below the target's usage, else the new quota and allowance with the old ones as results,
whatever the target's session state. -/
def Obligations.QuotaRequest : Prop :=
  ∀ (target quota allowance : Word) (s : State), s.takesOpen 0 →
    let request := Instr.quota 0 target quota allowance
    (6 ≤ target.toNat ∨ 16384 < quota.toNat ∨ 12 < allowance.toNat → refusedWith request s 0 0x40 .badOperand) ∧
    ∀ t : Master, target.toNat = t.val → quota.toNat ≤ 16384 → allowance.toNat ≤ 12 →
      (quota.toNat < (s.tally t).usage → refusedWith request s 0 0x40 .inUse) ∧
      ((s.tally t).usage ≤ quota.toNat → answered request s 0 0x40
        ((s.renewSession 0).setSession t { (s.renewSession 0).session t with
          quota := quota.toNat, allowance := allowance.toNat }) .ok
        [BitVec.ofNat 16 (s.session t).quota, BitVec.ofNat 16 (s.session t).allowance])

/-- REVOKE of a window of any owner and kind: with grace 0 the retire with cause REVOKED and the grant scan; with more,
the drain, to the earlier of the deadline held and now + grace, with REVOKING and the mark of a STANDING window's
slot. The result is the drain ticks remaining. -/
def Obligations.RevokeRequest : Prop :=
  ∀ (h grace : Word) (s : State), s.takesOpen 0 → handleFormatOk h = true →
    (60000 < grace.toNat → refusedWith (.revoke 0 h grace) s 0 0x41 .badOperand) ∧
    ∀ w, s.names h w →
      (grace = 0 → answered (.revoke 0 h grace) s 0 0x41
        (((s.renewSession 0).retire .revoked (handleIndex h)).grantScan).kickEngine .ok [0]) ∧
      ∀ deadline, 1 ≤ grace.toNat → grace.toNat ≤ 60000 →
        (w.drain = none → deadline = s.after grace.toNat) →
        (∀ d, w.drain = some d → deadline =
          if s.ticksTo d.deadline ≤ s.ticksTo (s.after grace.toNat) then d.deadline else s.after grace.toNat) →
        answered (.revoke 0 h grace) s 0 0x41
          (((((s.renewSession 0).setRecord (handleIndex h)
            ⟨handleGeneration h, .held { w with drain := some ⟨deadline, .revoked⟩ }⟩).raise w.owner
              .revoking).markRevokedOf w).kickEngine) .ok [BitVec.ofNat 16 (s.ticksTo deadline)]

/-- BAND by the mode and the value's relation to the effective claim band. That a window already DRAINING counts in the
reply to a widening is the model's reading (log entry 16). -/
def Obligations.BandRequest : Prop :=
  ∀ (value grace : Word) (s : State), s.takesOpen 0 →
    let v := value.toNat
    let request := Instr.band 0 value grace
    let pending := (s.renewSession 0).setBand { s.band with pending := some v, writeDue := true }
    (64 < v ∨ 60000 < grace.toNat → refusedWith request s 0 0x44 .badOperand) ∧
    (v ≤ 64 → grace.toNat ≤ 60000 →
      (s.mode = .running → v < s.band.effective → refusedWith request s 0 0x44 .narrow) ∧
      (s.mode = .running → v = s.band.effective →
        answered request s 0 0x44 (s.renewSession 0) .ok [value, 0, 0]) ∧
      (s.mode = .maintenance → v ≤ s.band.effective →
        answered request s 0 0x44 pending.kickEngine .ok [BitVec.ofNat 16 (max s.band.committed v), 0, 0]) ∧
      (s.band.effective < v → answered request s 0 0x44 (pending.widen v grace.toNat).kickEngine .ok
        [value,
          BitVec.ofNat 16 ((List.finRange 64).countP fun i => (s.record i).window.any fun w =>
            decide (w.owner ≠ 0) && decide (w.base < 64 * v)),
          BitVec.ofNat 16 (s.queue.countP fun e => decide (e.master ≠ 0) && decide (e.base < 64 * v))]))

/-- A widening drains or retires the windows of masters other than 0 over the new value, removes their waiters over it,
and touches no other window; the queue is left with nothing grantable. Every master's failure list takes the BANDED
records of its removed waiters in order, and after them the records of the waiters the scan finds no room for. -/
def Obligations.WideningEffect : Prop :=
  ∀ (s : State) (v grace : Nat), let t := s.widen v grace
    (∀ i w, (s.record i).window = some w → w.owner = 0 ∨ 64 * v ≤ w.base → t.record i = s.record i) ∧
    (∀ i w, (s.record i).window = some w → w.owner ≠ 0 → w.base < 64 * v →
      (grace = 0 → (t.notice w.owner).has .retired = true ∧
        (t.record i = ⟨(s.record i).generation, .free (some .banded)⟩ ∨
        ∃ e ∈ s.queue, t.record i = ⟨nextGeneration (s.record i).generation, .held (s.grantedWindow e)⟩)) ∧
      (1 ≤ grace → (t.notice w.owner).has .revoking = true ∧
        (w.drain = none →
          t.record i = ⟨(s.record i).generation, .held { w with drain := some ⟨s.after grace, .banded⟩ }⟩) ∧
        ∀ d, w.drain = some d →
          let deadline := if s.ticksTo d.deadline ≤ s.ticksTo (s.after grace) then d.deadline else s.after grace
          t.record i = ⟨(s.record i).generation, .held { w with drain := some ⟨deadline, .banded⟩ }⟩)) ∧
    t.queue.Sublist s.queue ∧ (∀ e ∈ t.queue, e.master = 0 ∨ 64 * v ≤ e.base) ∧
    (∀ e ∈ s.queue, e.master ≠ 0 → e.base < 64 * v → (t.notice e.master).has .waitfail = true) ∧
    (∀ m : Master, let banded := fun e : Waiter => decide (e.master = m) && decide (m ≠ 0) && decide (e.base < 64 * v)
      ∃ bound : List Failure, t.failureList m =
        (((s.queue.filter banded).map fun e => Failure.mk e.ticket .banded) ++ bound).foldl newestFour
          (s.failureList m) ∧
        ∀ f ∈ bound, (f.cause = .quota ∨ f.cause = .limit) ∧
          ∃ e ∈ s.queue, e.master = m ∧ e.ticket = f.ticket ∧ banded e = false) ∧
    (s.waitLaw → t.waitLaw) ∧ (1 ≤ grace → t.slots = s.slots) ∧
    t.links = s.links ∧ t.sessions = s.sessions ∧ t.clock = s.clock ∧ t.check = s.check ∧ t.watches = s.watches ∧
    t.engine = s.engine ∧ t.band = s.band ∧ t.startUp = s.startUp ∧ t.pins = s.pins

/-- PURGE: BAD_OPERAND, NOT_MAINT outside MAINTENANCE, else the retire of the bound window with cause PURGED and the
grant scan, then the slot marked CLEAR_DUE unless it is BLANK, unmarked and idle. That the engine chooses once, after
the scan and the mark, is the model's choice (log entry 15). -/
def Obligations.PurgeRequest : Prop :=
  ∀ (slot : Word) (s : State), s.takesOpen 0 →
    (12 ≤ slot.toNat → refusedWith (.purge 0 slot) s 0 0x45 .badOperand) ∧
    ∀ k : SlotIdx, slot.toNat = k.val →
      (s.mode = .running → refusedWith (.purge 0 slot) s 0 0x45 .notMaint) ∧
      ∀ u : State, s.mode = .maintenance →
        ((s.slot k).binding = none → u = s.renewSession 0) →
        (∀ i, (s.slot k).binding = some i → u = ((s.renewSession 0).retire .purged i).grantScan) →
        let gone : Word := BitVec.ofNat 16 ((s.slot k).binding.elim 64 Fin.val)
        let untouched := (u.slot k).content = .blank ∧ (u.slot k).mark = .none ∧ u.engine.workOn k = none
        (untouched → answered (.purge 0 slot) s 0 0x45 u.kickEngine .ok [gone, 0]) ∧
        (¬ untouched → answered (.purge 0 slot) s 0 0x45
          (u.setSlot k { u.slot k with mark := .clearDue }).kickEngine .ok [gone, 2])

/-! ### The window table (chapter 1) -/

/-- Two regions conflict exactly when some granule lies in both and at least one is WRITE; and ranges overlap exactly
when each begins below the other's end. -/
def Obligations.ConflictRelation : Prop :=
  ∀ a b : Region, 1 ≤ a.size → 1 ≤ b.size →
    (a.overlaps b = true ↔ ∃ g, (a.base ≤ g ∧ g < a.base + a.size) ∧ b.base ≤ g ∧ g < b.base + b.size) ∧
    (a.overlaps b = true ↔ a.base < b.base + b.size ∧ b.base < a.base + a.size) ∧
    (a.conflicts b = true ↔ a.overlaps b = true ∧ (a.mode = .write ∨ b.mode = .write))

/-- The retire procedure: the record is FREE with its generation and the cause, the owner's tallies fall, a STANDING
window's slot is released, the notice of the cause is raised for the owner, and nothing else changes. -/
def Obligations.RetireProcedure : Prop :=
  ∀ (s : State) (cause : RetireCause) (i : RecIdx) (w : Window), (s.record i).holding = .held w →
    let t := s.retire cause i
    t.record i = ⟨(s.record i).generation, .free (some cause)⟩ ∧ (∀ j, j ≠ i → t.record j = s.record j) ∧
    t.freeCount = s.freeCount + 1 ∧
    t.tally w.owner = ⟨(s.tally w.owner).usage - (if w.isStanding = true then 0 else w.size),
      (s.tally w.owner).windows - 1⟩ ∧
    (∀ m, m ≠ w.owner → t.tally m = s.tally m) ∧
    (w.isStanding = false → t.slots = s.slots) ∧
    (∀ k, w.kind = .standing k →
      (∀ j, j ≠ k → t.slot j = s.slot j) ∧
      ((s.slot k).content = .blank → (s.slot k).mark = .none → s.engine.workOn k = none →
        t.slot k = ⟨.blank, none, .none⟩) ∧
      ((s.slot k).content ≠ .blank ∨ (s.slot k).mark ≠ .none ∨ s.engine.workOn k ≠ none →
        t.slot k = ⟨(s.slot k).content, none, .clearDue⟩)) ∧
    (cause = .released ∨ cause = .lapsed ∨ cause = .closed → t.notices = s.notices) ∧
    (cause = .expired → t.notices = (s.raise w.owner .expired).notices) ∧
    (cause = .evicted ∨ cause = .revoked ∨ cause = .banded ∨ cause = .purged →
      t.notices = (s.raise w.owner .retired).notices) ∧
    t.links = s.links ∧ t.sessions = s.sessions ∧ t.queue = s.queue ∧ t.failures = s.failures ∧
    t.clock = s.clock ∧ t.check = s.check ∧ t.watches = s.watches ∧ t.engine = s.engine ∧ t.band = s.band ∧
    t.startUp = s.startUp ∧ t.pins = s.pins

/-! ### Access checks and watches (chapter 6) -/

/-- The check law: a write is allowed only inside one WRITE window of the checking master, a read only inside the
committed band or one window of the master, and nothing in STARTING. -/
def Obligations.CheckLaw : Prop :=
  ∀ (cmas : BitVec 3) (cadr : Address) (cspan : BitVec 6) (cwr : Bool) (s t : State),
    s.pins.supply = true → s.check.phase = .ready → exec (.checkStrobe cmas cadr cspan cwr) s = .next t →
    t.check.out.callow = true →
    s.mode ≠ .starting ∧
    (cwr = true → ∃ i w, (s.record i).window = some w ∧ w.owner.val = cmas.toNat ∧ w.mode = .write ∧
      containsSpan w.base w.size cadr cspan) ∧
    (cwr = false → cadr.toNat + cspan.toNat < 65536 * s.band.committed ∨
      ∃ i w, (s.record i).window = some w ∧ w.owner.val = cmas.toNat ∧ containsSpan w.base w.size cadr cspan)

/-- The verdict, test by test in the order of R101's table, and what it drives on CALLOW, CWHY and CREC. -/
def Obligations.CheckVerdict : Prop :=
  ∀ (cmas : BitVec 3) (cadr : Address) (cspan : BitVec 6) (cwr : Bool) (s : State),
    s.pins.supply = true → s.check.phase = .ready →
    let last := cadr.toNat + cspan.toNat
    let top := 65536 * s.band.committed
    ∃ t, exec (.checkStrobe cmas cadr cspan cwr) s = .next t ∧
      t.check.phase = .answering ⟨cmas, cadr, cspan, cwr⟩ ∧
      let deny := fun reason named => t.check.out = ⟨true, false, BitVec.ofNat 3 reason, BitVec.ofNat 6 named⟩
      let allow := fun named => t.check.out = ⟨true, true, 0, BitVec.ofNat 6 named⟩
      (s.mode = .starting → deny 0 63) ∧
      (s.mode ≠ .starting → 6 ≤ cmas.toNat → deny 1 63) ∧
      ∀ m : Master, s.mode ≠ .starting → cmas.toNat = m.val →
        (s.mode = .maintenance → m ≠ 0 → deny 2 63) ∧
        ((s.mode = .maintenance → m = 0) →
          (0xFFFFFF < last → deny 3 63) ∧
          (last ≤ 0xFFFFFF → cwr = false → last < top → allow 63) ∧
          (last ≤ 0xFFFFFF → cwr = true ∨ top ≤ last →
            let fits := fun (_ : RecIdx) (w : Window) => w.owner = m ∧ containsSpan w.base w.size cadr cspan ∧
              (cwr = true → w.mode = .write)
            (∀ i, s.isLowest fits i → allow i.val) ∧
            (s.noneInForce fits →
              (cwr = true → m ≠ 0 → cadr.toNat < top → deny 4 63) ∧
              (cwr = false ∨ m = 0 ∨ top ≤ cadr.toNat →
                let readOnly := fun (_ : RecIdx) (w : Window) => cwr = true ∧ w.owner = m ∧
                  containsSpan w.base w.size cadr cspan ∧ w.mode = .read
                let meets := fun (_ : RecIdx) (w : Window) => w.owner = m ∧
                  meetsBytes w.base w.size cadr.toNat last
                (∀ i, s.isLowest readOnly i → deny 5 i.val) ∧
                (s.noneInForce readOnly → (∀ i, s.isLowest meets i → deny 6 i.val) ∧
                  (s.noneInForce meets → deny 7 63))))))

/-- What a check does beside its verdict: the touched flag of the window that allowed it, the deny latch of the denied
master, the watches it hits with WATCH for their owners, and nothing else; and the handshake while ANSWERING and at
the release. -/
def Obligations.CheckEffects : Prop :=
  (∀ (a : Access) (s : State), s.pins.supply = true → s.check.phase = .ready →
    ∃ t, exec (.checkStrobe a.cmas a.cadr a.cspan a.cwr) s = .next t ∧
      let v := s.verdict a
      (∀ i w, v = .allowWindow i → (s.record i).window = some w →
        t.record i = ⟨(s.record i).generation, .held { w with touched := true }⟩ ∧
        ∀ j, j ≠ i → t.record j = s.record j) ∧
      ((∀ i, v ≠ .allowWindow i) → t.table = s.table) ∧
      (6 ≤ a.cmas.toNat → t.table = s.table ∧ t.notices = s.notices ∧ t.watches = s.watches) ∧
      (s.mode = .starting → t.table = s.table ∧ t.notices = s.notices ∧ t.watches = s.watches) ∧
      (∀ m : Master, a.cmas.toNat = m.val → s.mode ≠ .starting →
        (∀ reason named, v = .deny reason named →
          ((s.notice m).latch = none → t.notice m = Notice.refresh { s.notice m with
            flags := (s.notice m).flags ||| Flag.denied.mask,
            latch := some ⟨a.cadr, a.cspan.toNat + 1, if a.cwr then .write else .read, reason⟩ } s.mode) ∧
          ((s.notice m).latch ≠ none → t.notice m = { s.notice m with more := true })) ∧
        ((∀ reason named, v ≠ .deny reason named) → t.notice m = s.notice m) ∧
        let hit := fun w : Watch => m ≠ w.owner ∧ w.kinds ≠ (if a.cwr then .reads else .writes) ∧
          meetsBytes w.base w.size a.cadr.toNat (min (a.cadr.toNat + a.cspan.toNat) 0xFFFFFF)
        (∀ j, j ≠ m →
          ((∃ k w, s.watch k = .armed w ∧ w.owner = j ∧ hit w) → t.notice j = (s.raise j .watch).notice j) ∧
          ((∀ k w, s.watch k = .armed w → w.owner = j → ¬ hit w) → t.notice j = s.notice j)) ∧
        ∀ k, (s.watch k = .free → t.watch k = .free) ∧
          ∀ w, s.watch k = .armed w →
            (¬ hit w → t.watch k = .armed w) ∧
            (hit w → t.watch k = .armed { w with
              hits := if w.hits < 255 then w.hits + 1 else w.hits,
              last := some ⟨m, a.cadr, if a.cwr then .write else .read, v.reason⟩ })) ∧
      t.links = s.links ∧ t.tallies = s.tallies ∧ t.sessions = s.sessions ∧ t.queue = s.queue ∧
      t.failures = s.failures ∧ t.clock = s.clock ∧ t.slots = s.slots ∧ t.engine = s.engine ∧ t.band = s.band ∧
      t.startUp = s.startUp ∧ t.pins = { s.pins with cstb := true } ∧ t.pending = s.pending) ∧
  (∀ (cmas : BitVec 3) (cadr : Address) (cspan : BitVec 6) (cwr : Bool) (a : Access) (s : State),
    s.pins.supply = true → s.check.phase = .answering a →
    exec (.checkStrobe cmas cadr cspan cwr) s = .next (s.setPins { s.pins with cstb := true }) ∧
    exec .checkRelease s = .next ((s.setPins { s.pins with cstb := false }).setCheck
      ⟨.ready, ⟨false, false, 0, 63⟩⟩)) ∧
  ∀ s : State, s.pins.supply = true → s.check.phase = .ready →
    exec .checkRelease s = .next (s.setPins { s.pins with cstb := false })

/-- WATCH SET, WATCH CLEAR and WATCH READ: their tests in order, the record armed, freed, or read with its count set to
0, and the layout of the watch record. That the bits about the last hit are 0 while there is none is the model's choice
(log entry 30), and so is that the reason bits are 0 when the last hit was answered ALLOW (log entry 31). -/
def Obligations.WatchRequests : Prop :=
  (∀ (m : Master) (base size kinds : Word) (x : WatchKinds) (s : State), s.takesOpen m →
    kinds.toNat = x.code →
    let request := Instr.watchSet m base size kinds
    let inRange := 1 ≤ size.toNat ∧ base.toNat + size.toNat ≤ 16384
    let owned := (List.finRange 8).countP fun k => (s.watch k).watch.any fun w => decide (w.owner = m)
    (¬ inRange → refusedWith request s m 0x28 .badRange) ∧
    (inRange → 3 ≤ owned ∨ (∀ k, s.watch k ≠ .free) → refusedWith request s m 0x28 .watchFull) ∧
    ∀ k, inRange → owned < 3 → s.watch k = .free → (∀ j, j < k → s.watch j ≠ .free) →
      answered request s m 0x28 ((s.renewSession m).setWatch k (.armed ⟨m, base.toNat, size.toNat, x, 0, none⟩)) .ok
        [BitVec.ofNat 16 k.val]) ∧
  (∀ (m : Master) (id : Word) (s : State), s.takesOpen m →
    let both := fun st => refusedWith (.watchClear m id) s m 0x29 st ∧ refusedWith (.watchRead m id) s m 0x2A st
    (8 ≤ id.toNat → both .badOperand) ∧
    ∀ k : WatchIdx, id.toNat = k.val →
      (s.watch k = .free → both .noWatch) ∧
      ∀ w, s.watch k = .armed w →
        (w.owner ≠ m → both .notOwner) ∧
        (w.owner = m →
          answered (.watchClear m id) s m 0x29 ((s.renewSession m).setWatch k .free) .ok
            [BitVec.ofNat 16 w.hits] ∧
          answered (.watchRead m id) s m 0x2A ((s.renewSession m).setWatch k (.armed { w with hits := 0 })) .ok
            w.words)) ∧
  [WatchKinds.reads, .writes, .both].map WatchKinds.code = [1, 2, 3] ∧
  ∀ w : Watch, w.hits ≤ 255 →
    let address := w.last.elim 0 Hit.address
    w.words = [0#10 ++ BitVec.ofNat 2 w.kinds.code ++ 0#1 ++ BitVec.ofNat 3 w.owner.val, BitVec.ofNat 16 w.base,
      BitVec.ofNat 16 w.size,
      BitVec.ofBool w.last.isSome ++ 0#4 ++ BitVec.ofNat 3 (w.last.elim 0 fun h => h.hitter.val) ++
        BitVec.ofNat 8 w.hits,
      0#8 ++ address.extractLsb' 16 8, address.extractLsb' 0 16,
      0#11 ++ BitVec.ofNat 3 (w.last.elim 0 fun h => h.denied.elim 0 DenyReason.code) ++
        BitVec.ofBool (w.last.any fun h => h.denied.isNone) ++
        BitVec.ofBool (w.last.any fun h => decide (h.kind = .write))]

/-! ### Notices (chapter 7) -/

/-- The notice unit: a raise sets one flag of one master and its line follows; NOTICE READ reports the record and changes
nothing; NOTICE ACK clears the named flags, and the latch with DENIED; NOTICE ENABLE replaces the enables. -/
def Obligations.NoticeUnit : Prop :=
  (∀ (s : State) (m : Master) (f : Flag), s.raise m f = s.setNotice m { s.notice m with
    flags := (s.notice m).flags ||| f.mask,
    line := decide (s.mode ≠ .starting) && (s.notice m).lineEnable &&
      decide (((s.notice m).flags ||| f.mask) &&& (s.notice m).enables ≠ 0) }) ∧
  (∀ (m : Master) (s : State), s.pins.supply = true → s.mode ≠ .starting →
    (answered (.noticeRead m) s m 0x30 (s.renewSession m) .ok (s.notice m).words) ∧
    (∀ mask : Word, mask.toNat < 4096 → answered (.noticeAck m mask) s m 0x31
      ((s.renewSession m).setNotice m { s.notice m with
        flags := (s.notice m).flags &&& ~~~ (mask.setWidth 12),
        latch := if mask.getLsbD 6 ∧ (s.notice m).flags.getLsbD 6 then none else (s.notice m).latch,
        more := if mask.getLsbD 6 ∧ (s.notice m).flags.getLsbD 6 then false else (s.notice m).more,
        line := (s.notice m).lineEnable &&
          decide ((s.notice m).flags &&& ~~~ (mask.setWidth 12) &&& (s.notice m).enables ≠ 0) })
      .ok [((s.notice m).flags &&& mask.setWidth 12).setWidth 16]) ∧
    ∀ (mask : Word) (line : Bool), mask.toNat < 4096 →
      let enables := mask.setWidth 12 &&& (if m = 0 then 0xFFF else 0x3FF)
      answered (.noticeEnable m mask (if line then 1 else 0)) s m 0x32
        ((s.renewSession m).setNotice m { s.notice m with
          enables := enables, lineEnable := line, line := line && decide ((s.notice m).flags &&& enables ≠ 0) })
        .ok [(s.notice m).enables.setWidth 16, if (s.notice m).lineEnable then 1 else 0]) ∧
  [Flag.grant, .waitfail, .expired, .leaselow, .revoking, .retired, .denied, .watch, .stored, .lapsed, .peerlapse,
      .startloss].map Flag.mask =
    [0x001, 0x002, 0x004, 0x008, 0x010, 0x020, 0x040, 0x080, 0x100, 0x200, 0x400, 0x800] ∧
  [DenyReason.notReady, .noMaster, .maint, .range, .reserved, .readOnly, .split, .noWindow].map DenyReason.code =
    [0, 1, 2, 3, 4, 5, 6, 7] ∧
  ∀ n : Notice, (∀ c ∈ n.latch, c.span < 128) →
    let address := n.latch.elim 0 Capture.address
    n.words = [n.flags.setWidth 16, n.enables.setWidth 16,
      0#1 ++ BitVec.ofNat 7 (n.latch.elim 0 Capture.span) ++ 0#1 ++
        BitVec.ofNat 3 (n.latch.elim 0 fun c => c.reason.code) ++
        BitVec.ofBool (n.latch.any fun c => decide (c.kind = .write)) ++ BitVec.ofBool n.more ++
        BitVec.ofBool n.latch.isSome ++ BitVec.ofBool n.lineEnable,
      0#8 ++ address.extractLsb' 16 8, address.extractLsb' 0 16]

/-! ### Standing windows and the slot store (chapter 8) -/

/-- STAND and UNSTAND: their tests in order, the binding, the mark, the lease kind and the usage, the slot's disposal,
and the engine's choice. -/
def Obligations.StandRequests : Prop :=
  ∀ (m : Master) (h : Word) (s : State) (w : Window), s.takesOpen m → handleFormatOk h = true → s.names h w →
    let i := handleIndex h
    let r := s.renewSession m
    let stands := (List.finRange 64).countP fun j => (s.record j).window.any fun v =>
      decide (v.owner = m) && v.isStanding
    let free := fun k => s.slot k = ⟨.blank, none, .none⟩ ∧ s.engine.workOn k = none
    (w.owner ≠ m → refusedWith (.stand m h) s m 0x20 .notOwner ∧ refusedWith (.unstand m h) s m 0x21 .notOwner) ∧
    (w.owner = m →
      (w.drain ≠ none → refusedWith (.stand m h) s m 0x20 .draining) ∧
      (w.drain = none → w.isStanding = true → refusedWith (.stand m h) s m 0x20 .standing) ∧
      (w.drain = none → w.isStanding = false →
        ((s.session m).allowance ≤ stands → refusedWith (.stand m h) s m 0x20 .allowance) ∧
        (stands < (s.session m).allowance → (∀ k, ¬ free k) → refusedWith (.stand m h) s m 0x20 .noSlot) ∧
        ∀ k, stands < (s.session m).allowance → free k → (∀ j, j < k → ¬ free j) →
          answered (.stand m h) s m 0x20
            (((r.setSlot k ⟨.blank, some i, .writeDue⟩).setRecord i
              ⟨handleGeneration h, .held { w with kind := .standing k }⟩).setTally m
              ⟨(s.tally m).usage - w.size, (s.tally m).windows⟩).kickEngine .ok [BitVec.ofNat 16 k.val]) ∧
      (w.isStanding = false → refusedWith (.unstand m h) s m 0x21 .notStanding) ∧
      ∀ k, w.kind = .standing k →
        ((s.session m).quota < (s.tally m).usage + w.size → refusedWith (.unstand m h) s m 0x21 .quota) ∧
        ((s.tally m).usage + w.size ≤ (s.session m).quota →
          let left := fun mark => (((r.setRecord i ⟨handleGeneration h, .held { w with kind := .session }⟩).setTally m
            ⟨(s.tally m).usage + w.size, (s.tally m).windows⟩).setSlot k
            ⟨(s.slot k).content, none, mark⟩).kickEngine
          let freed := (s.slot k).content = .blank ∧ s.engine.workOn k = none ∧ (s.slot k).mark ≠ .clearDue
          (freed → answered (.unstand m h) s m 0x21 (left .none) .ok [BitVec.ofNat 16 k.val, 1]) ∧
          (¬ freed → answered (.unstand m h) s m 0x21 (left .clearDue) .ok [BitVec.ofNat 16 k.val, 2])))

/-- The tables of a slot's marks: a mode change (R39), a revocation with grace (R89), and the slot each of them falls
on. -/
def Obligations.SlotMarkTables : Prop :=
  (∀ (s : State) (w : Window), w.isStanding = false → s.markRewriteOf w = s ∧ s.markRevokedOf w = s) ∧
  ∀ (s : State) (w : Window) (k : SlotIdx), w.kind = .standing k →
    let x := s.slot k
    let work := s.engine.workOn k
    let marked := fun mark => s.setSlot k { s.slot k with mark := mark }
    ((∀ image, x.content = .valid image → x.mark = .none → work = none → s.markRewriteOf w = marked .writeDue) ∧
    (x.mark = .writeDue → s.markRewriteOf w = s) ∧
    (x.mark ≠ .clearDue → work = some .write → s.markRewriteOf w = marked .writeDue) ∧
    (x.mark = .clearDue ∨ work = some .clear → s.markRewriteOf w = s) ∧
    (x.content = .blank → x.mark = .none → work = none → s.markRewriteOf w = s)) ∧
    (∀ image, x.content = .valid image → x.mark = .none → work = none → s.markRevokedOf w = marked .clearDue) ∧
    (x.mark = .writeDue → work = none → s.markRevokedOf w = marked .clearDue) ∧
    (work = some .write → s.markRevokedOf w = marked .clearDue) ∧
    (x.mark = .clearDue ∨ work = some .clear → s.markRevokedOf w = s) ∧
    (x.content = .blank → x.mark = .none → work = none → s.markRevokedOf w = s)

/-- The engine's choice: none while it is busy or the part is STARTING; the band cell first, then the lowest marked
slot; a write captures the window's image with its check value, and a clear none. -/
def Obligations.EngineChoice : Prop :=
  ∀ s : State,
    (s.engine ≠ .idle ∨ s.mode = .starting → s.kickEngine = s) ∧
    (s.engine = .idle → s.mode ≠ .starting →
      (∀ v, s.band.writeDue = true → s.band.pending = some v →
        s.kickEngine = (s.setBand { s.band with writeDue := false }).setEngine (.erasingBand v)) ∧
      (s.band.writeDue = false →
        ((∀ k, (s.slot k).mark = .none) → s.kickEngine = s) ∧
        ∀ k, (∀ j, j < k → (s.slot j).mark = .none) →
          let taken := s.setSlot k { s.slot k with mark := .none }
          ((s.slot k).mark = .clearDue → s.kickEngine = taken.setEngine (.erasingForClear k)) ∧
          ∀ i w, (s.slot k).mark = .writeDue → (s.slot k).binding = some i → (s.record i).holding = .held w →
            s.kickEngine = taken.setEngine (.erasingForWrite k ⟨w.owner.val, w.base, w.size, some w.mode,
              Config.imageCheck w.owner.val w.base w.size (some w.mode)⟩ i)))

/-- The phases of a write and of a clear, STORED only for an image that is current, the engine's next choice at the end
of an operation, and a loss of retention, which leaves the slot VALID. -/
def Obligations.SlotPhases : Prop :=
  (∀ (s : State) (k : SlotIdx) (image : Image) (i : RecIdx), s.pins.supply = true →
    (s.engine = .erasingForWrite k image i → exec .slotEraseDone s = .next
      ((s.setSlot k { s.slot k with content := .blank }).setEngine (.programmingSlot k image i))) ∧
    (s.engine = .programmingSlot k image i →
      let written := s.setSlot k { s.slot k with content := .valid image }
      ((s.slot k).binding ≠ some i ∨ (s.slot k).mark ≠ .none →
        exec .slotProgramDone s = .next (written.setEngine .idle).kickEngine) ∧
      ∀ w, (s.slot k).binding = some i → (s.slot k).mark = .none → (s.record i).holding = .held w →
        exec .slotProgramDone s = .next ((written.raise w.owner .stored).setEngine .idle).kickEngine) ∧
    (s.engine = .erasingForClear k → exec .clearDone s = .next
      ((s.setSlot k { s.slot k with content := .blank }).setEngine .idle).kickEngine)) ∧
  ∀ (s : State) (k : SlotIdx) (old new : Image), (s.slot k).content = .valid old →
    exec (.lossOfRetention k new) s = .next (s.setSlot k { s.slot k with content := .valid new })

/-! ### The boot band (chapter 9) -/

/-- The phases of a band-cell write: no commit while a newer value is due; else the committed band takes the value, the
windows of masters other than 0 over it are retired with cause BANDED in index order, and the grant scan runs. -/
def Obligations.BandPhases : Prop :=
  ∀ (s : State) (v : Nat), s.pins.supply = true →
    (s.engine = .erasingBand v → exec .bandEraseDone s = .next (s.setEngine (.programmingBand v))) ∧
    (s.engine = .programmingBand v →
      (s.band.writeDue = true → exec .bandProgramDone s = .next
        (((s.setBand { s.band with cell := .valid v }).setEngine .idle).kickEngine)) ∧
      (s.band.writeDue = false →
        let taken := (List.finRange 64).filter fun i => (s.record i).window.any fun w =>
          decide (w.owner ≠ 0) && decide (w.base < 64 * v)
        exec .bandProgramDone s = .next (((((s.setBand { s.band with
          cell := .valid v, committed := v, pending := none }).retireAll .banded taken).grantScan).setEngine
            .idle).kickEngine)))

/-! ### Starts and the restore (chapter 10) -/

/-- The beginning of a start, whatever its kind: every volatile record takes its start value, the phase in progress
leaves its target DAMAGED, and the engine is IDLE, or reads the band cell at once for a SOFT start. A loss of supply
breaks the phase off in the same way; that it leaves the engine IDLE is the model's choice (log entry 12). LDO of a link
whose LSEL is low stays driven, with 0 (log entry 19). -/
def Obligations.StartsBegin : Prop :=
  ∀ s : State,
    let broken := fun t : State =>
      (∀ k, (t.slot k).content = if s.engine.workOn k = none then (s.slot k).content else .damaged) ∧
      ((∃ v, s.engine = .erasingBand v ∨ s.engine = .programmingBand v) → t.band.cell = .damaged) ∧
      ((∀ v, s.engine ≠ .erasingBand v ∧ s.engine ≠ .programmingBand v) → t.band.cell = s.band.cell)
    let begun := fun (t : State) (cause : StartCause) =>
      broken t ∧ t.mode = .starting ∧ t.startUp.cause = cause ∧ t.startUp.maintenance = false ∧
      t.startUp.damaged = 0 ∧ t.startUp.rejected = 0 ∧ t.startUp.bandDamaged = false ∧ t.clock = none ∧
      t.queue = [] ∧ (∀ i, t.record i = ⟨0, .free none⟩) ∧
      (∀ m, t.tally m = ⟨0, 0⟩ ∧ t.failureList m = [] ∧ t.notice m = ⟨0, 0, false, none, false, false⟩) ∧
      t.session 0 = ⟨.closed, 16384, 12, 1⟩ ∧ (∀ m, m ≠ 0 → t.session m = ⟨.closed, 4096, 0, 1⟩) ∧
      (∀ k, t.watch k = .free) ∧ t.check = ⟨.ready, ⟨false, false, 0, 63⟩⟩ ∧
      (∀ m, (t.link m).phase = .idle ∧ (t.link m).buffer = [] ∧ (t.link m).reply = none ∧
        (t.link m).shiftOut = (s.link m).shiftOut ∧ (t.link m).lselLow = (s.link m).lselLow ∧
        (t.link m).ldo = if (s.link m).lselLow = true then some false else none) ∧
      (∀ k, (t.slot k).binding = none ∧ (t.slot k).mark = .none) ∧ t.band.pending = none ∧ t.band.writeDue = false
    (∃ t, exec .powerStart s = .next t ∧ begun t .power ∧ t.engine = .idle ∧ t.pins.supply = true ∧
      t.startUp.hold = true) ∧
    (s.pins.supply = true →
      (∃ t, exec .lineStart s = .next t ∧ begun t .line ∧ t.engine = .idle ∧ t.pins.reset = true) ∧
      (∃ t, exec .supplyLoss s = .next t ∧ broken t ∧ t.engine = .idle ∧ t.pins.supply = false)) ∧
    (s.takesOpen 0 → ∃ t, exec (.restart 0) s = .next t ∧ begun t .soft ∧ t.engine = .reading .band)

/-- The start-up read begins when the power-on hold ends or RESET# is released, with the band cell, and the read of the
band cell sets the committed band, the pending band, the flag and BAND_DAMAGED. While RESET# is asserted the end of the
hold begins no read; that a release of RESET# during the hold begins none either is the model's reading (log
entry 13). -/
def Obligations.StartUpReadBegins : Prop :=
  ∀ s : State, s.pins.supply = true →
    (s.startUp.hold = true → s.pins.reset = false → exec .powerOnHoldEnd s = .next
      ((s.setStartUp { s.startUp with hold := false }).setEngine (.reading .band))) ∧
    (s.startUp.hold = true → s.pins.reset = true → exec .powerOnHoldEnd s = .next
      (s.setStartUp { s.startUp with hold := false })) ∧
    (s.startUp.hold = true → exec .resetRelease s = .next (s.setPins { s.pins with reset := false })) ∧
    (s.mode = .starting → s.startUp.hold = false → s.engine = .idle → s.pins.reset = true →
      exec .resetRelease s = .next ((s.setPins { s.pins with reset := false }).setEngine (.reading .band))) ∧
    (s.engine = .reading .band →
      (∀ b, s.band.cell = .valid b → exec .bandCellRead s = .next
        ((s.setBand { s.band with committed := b, pending := none, writeDue := false }).setEngine
          (.reading (.slot 0)))) ∧
      (s.band.cell = .damaged → exec .bandCellRead s = .next
        (((s.setBand { s.band with committed := 64, pending := some 64, writeDue := true }).setStartUp
          { s.startUp with bandDamaged := true }).setEngine (.reading (.slot 0)))))

/-- The restore of one slot, before slot 11: BLANK, DAMAGED, an image accepted into the lowest FREE record, and an image
rejected; then the engine reads the next slot. That the level of MAINT is recorded at every slot read is the model's
choice (log entry 14). -/
def Obligations.SlotRestore : Prop :=
  ∀ (s : State) (k next : SlotIdx) (maint : Bool), s.pins.supply = true → s.engine = .reading (.slot k) →
    next.val = k.val + 1 →
    let seen := s.setPins { s.pins with maint := maint }
    let marked := seen.setSlot k { s.slot k with mark := .clearDue }
    let answers := fun u : State => exec (.slotRead maint) s = .next (u.setEngine (.reading (.slot next)))
    ((s.slot k).content = .blank → answers seen) ∧
    ((s.slot k).content = .damaged → answers (marked.setStartUp { s.startUp with
      damaged := s.startUp.damaged ||| BitVec.ofNat 12 (2 ^ k.val) })) ∧
    ∀ x, (s.slot k).content = .valid x →
      let inRange := fun (m : Master) (mode : AccessMode) => x.owner = m.val ∧ x.mode = some mode ∧
        x.check = Config.imageCheck x.owner x.base x.size x.mode ∧ 1 ≤ x.size ∧ x.base + x.size ≤ 16384
      let clear := fun (m : Master) (mode : AccessMode) =>
        s.noneInForce (fun _ v => Region.conflicts ⟨x.base, x.size, mode⟩ v.region = true) ∧
        (m ≠ 0 → 64 * s.band.committed ≤ x.base)
      (∀ m mode i, inRange m mode → clear m mode → s.lowestFree i →
        answers (((seen.setRecord i
          ⟨if (s.record i).generation = 255 then 1 else (s.record i).generation + 1,
            .held ⟨m, x.base, x.size, mode, .standing k, none, 0, false⟩⟩).setTally m
          ⟨(s.tally m).usage, (s.tally m).windows + 1⟩).setSlot k { s.slot k with binding := some i })) ∧
      ((∀ m mode, inRange m mode → ¬ clear m mode) → answers (marked.setStartUp { s.startUp with
        rejected := s.startUp.rejected ||| BitVec.ofNat 12 (2 ^ k.val) }))

/-- The end of STARTING, at the read of slot 11: the slot decided in one of the four ways, the flag, the mode, tick 0,
the lines under the new mode, STARTLOSS for a report that is not empty, and the engine's first choice. That the level
of MAINT comes with the read is the model's choice (log entry 14), and so is that a check still held stays answered
(log entry 29). -/
def Obligations.StartingEnds : Prop :=
  ∀ (s decided : State) (maint : Bool), s.pins.supply = true → s.engine = .reading (.slot 11) →
    let content := (s.slot 11).content
    let seen := s.setPins { s.pins with maint := maint }
    let marked := seen.setSlot 11 { s.slot 11 with mark := .clearDue }
    let inRange := fun (x : Image) (m : Master) (mode : AccessMode) => x.owner = m.val ∧ x.mode = some mode ∧
      x.check = Config.imageCheck x.owner x.base x.size x.mode ∧ 1 ≤ x.size ∧ x.base + x.size ≤ 16384
    let clear := fun (x : Image) (m : Master) (mode : AccessMode) =>
      s.noneInForce (fun _ v => Region.conflicts ⟨x.base, x.size, mode⟩ v.region = true) ∧
      (m ≠ 0 → 64 * s.band.committed ≤ x.base)
    (content = .blank ∧ decided = seen ∨
      content = .damaged ∧ decided = marked.setStartUp { s.startUp with damaged := s.startUp.damaged ||| 0x800 } ∨
      (∃ x m mode i, content = .valid x ∧ inRange x m mode ∧ clear x m mode ∧ s.lowestFree i ∧
        decided = ((seen.setRecord i
          ⟨if (s.record i).generation = 255 then 1 else (s.record i).generation + 1,
            .held ⟨m, x.base, x.size, mode, .standing 11, none, 0, false⟩⟩).setTally m
          ⟨(s.tally m).usage, (s.tally m).windows + 1⟩).setSlot 11 { s.slot 11 with binding := some i }) ∨
      (∃ x, content = .valid x ∧ (∀ m mode, inRange x m mode → ¬ clear x m mode) ∧
        decided = marked.setStartUp { s.startUp with rejected := s.startUp.rejected ||| 0x800 })) →
    let flag := maint && decide (s.startUp.cause ≠ .soft)
    let report := decided.startUp
    ∃ t u : State, exec (.slotRead maint) s = .next t ∧ t = u.kickEngine ∧ u.engine = .idle ∧
      u.startUp = { report with maintenance := flag, mode := if flag then .maintenance else .running } ∧
      u.clock = some 0 ∧ u.table = decided.table ∧ u.tallies = decided.tallies ∧ u.slots = decided.slots ∧
      u.band = s.band ∧ u.sessions = s.sessions ∧ u.queue = s.queue ∧ u.failures = s.failures ∧
      u.watches = s.watches ∧ u.check = s.check ∧ u.links = s.links ∧ u.pins = { s.pins with maint := maint } ∧
      u.pending = s.pending ∧
      (∀ m, (u.notice m).line = (u.notice m).level u.mode ∧ (u.notice m).enables = (s.notice m).enables ∧
        (u.notice m).lineEnable = (s.notice m).lineEnable ∧ (u.notice m).latch = (s.notice m).latch ∧
        (u.notice m).more = (s.notice m).more) ∧
      (∀ m, m ≠ 0 → (u.notice m).flags = (s.notice m).flags) ∧
      (u.notice 0).flags = (s.notice 0).flags |||
        (if report.damaged = 0 ∧ report.rejected = 0 ∧ report.bandDamaged = false then 0 else Flag.startloss.mask)

/-- STATUS: the seven words of its reply, in every mode but STARTING and every session state, with nothing changed but
the renewal. -/
def Obligations.StatusReply : Prop :=
  ∀ (m : Master) (s : State), s.pins.supply = true → s.mode ≠ .starting → s.band.committed ≤ 64 →
    (∀ v ∈ s.band.pending, v ≤ 64) → s.queue.length ≤ 16 →
    ∃ target state : Nat, answered (.status m) s m 0x02 (s.renewSession m) .ok
      [BitVec.ofNat 4 target ++ 0#2 ++ BitVec.ofNat 2 state ++ 0#2 ++ BitVec.ofBool s.startUp.bandDamaged ++
          BitVec.ofBool s.startUp.maintenance ++
          BitVec.ofNat 2 (match s.startUp.cause with | .power => 1 | .line => 2 | .soft => 3) ++
          BitVec.ofNat 2 (if s.mode = .maintenance then 2 else 1),
        s.startUp.damaged.setWidth 16, s.startUp.rejected.setWidth 16,
        0#1 ++ BitVec.ofNat 7 (s.band.pending.getD 127) ++ 0#1 ++ BitVec.ofNat 7 s.band.committed,
        0#3 ++ BitVec.ofNat 5 s.queue.length ++ 0#1 ++ BitVec.ofNat 7 s.freeCount,
        s.now.extractLsb' 16 16, s.now.extractLsb' 0 16] ∧
      (s.engine = .idle → target = 15 ∧ state = 0) ∧
      (∀ k, (∃ x i, s.engine = .erasingForWrite k x i) ∨ s.engine = .erasingForClear k → target = k.val ∧ state = 2) ∧
      (∀ k x i, s.engine = .programmingSlot k x i → target = k.val ∧ state = 3) ∧
      (∀ v, s.engine = .erasingBand v → target = 12 ∧ state = 2) ∧
      ∀ v, s.engine = .programmingBand v → target = 12 ∧ state = 3

/-! ### The lease clock (chapters 4, 5, 3) -/

/-- TICK moves the clock by one, round the wrap, and touches nothing else; the clock does not run while a start is in
progress, and it waits while something the present tick made due is not taken. The waiting is the model's (log entry 6),
and so is that a warning is due only with fewer ticks remaining than the lease length (log entry 7). -/
def Obligations.ClockTick : Prop :=
  ∀ s : State, s.pins.supply = true →
    (s.clock = none → exec .tick s = .next s) ∧
    (∀ now, s.clock = some now → s.expiryPending = false → exec .tick s = .next (s.setClock (some (now + 1)))) ∧
    (s.expiryPending = true → exec .tick s = .next s) ∧
    (s.expiryPending = false ↔
      (∀ m period deadline, (s.session m).state = .opened period deadline → s.clock ≠ some deadline) ∧
      (∀ i w l, (s.record i).window = some w → w.kind = .timed l → s.clock ≠ some l.deadline) ∧
      (∀ i w d, (s.record i).window = some w → w.drain = some d → s.clock ≠ some d.deadline) ∧
      (∀ i w l, (s.record i).window = some w → w.kind = .timed l → s.clock ≠ none → w.drain = none →
        l.warned = false → s.ticksTo l.deadline < 1 ∨ max 1 (l.length / 8) < s.ticksTo l.deadline ∨
          l.length ≤ s.ticksTo l.deadline) ∧
      ∀ e d, e ∈ s.queue → e.deadline = some d → s.clock ≠ some d)

/-- The expiries of the window table and the wait queue: each is taken when the clock stands at the deadline a record
holds, and otherwise does nothing. The warning's margin is its lease length over 8, or 1; that the remaining time must
be below the length is the model's (log entry 7). -/
def Obligations.DeadlineExpiries : Prop :=
  (∀ (s : State) (i : RecIdx) (w : Window) (l : Lease), s.pins.supply = true → (s.record i).window = some w →
    w.kind = .timed l →
    (s.clock = some l.deadline → exec (.leaseExpiry i) s = .next (s.retire .expired i).grantScan) ∧
    (s.clock ≠ some l.deadline → exec (.leaseExpiry i) s = .next s) ∧
    let remaining := s.ticksTo l.deadline
    let due := s.clock ≠ none ∧ w.drain = none ∧ l.warned = false ∧ 1 ≤ remaining ∧
      remaining ≤ max 1 (l.length / 8) ∧ remaining < l.length
    (due → exec (.leaselowWarning i) s = .next ((s.setRecord i ⟨(s.record i).generation,
      .held { w with kind := .timed { l with warned := true } }⟩).raise w.owner .leaselow)) ∧
    (¬ due → exec (.leaselowWarning i) s = .next s)) ∧
  (∀ (s : State) (i : RecIdx) (w : Window) (d : Drain), s.pins.supply = true → (s.record i).window = some w →
    w.drain = some d →
    (s.clock = some d.deadline → exec (.drainEnd i) s = .next ((s.retire
      (match d.cause with | .revoked => .revoked | .banded => .banded) i).grantScan).kickEngine) ∧
    (s.clock ≠ some d.deadline → exec (.drainEnd i) s = .next s)) ∧
  (∀ (s : State) (i : RecIdx), s.pins.supply = true →
    ((∀ w l, (s.record i).window = some w → w.kind ≠ .timed l) →
      exec (.leaseExpiry i) s = .next s ∧ exec (.leaselowWarning i) s = .next s) ∧
    ((∀ w, (s.record i).window = some w → w.drain = none) → exec (.drainEnd i) s = .next s)) ∧
  (∀ (s : State) (m : Master) (ticket : Word), s.pins.supply = true →
    (∀ e ∈ s.queue, ¬ (e.master = m ∧ e.ticket = ticket)) → exec (.waitExpiry m ticket) s = .next s) ∧
  ∀ (s : State) (e : Waiter) (older younger : List Waiter), s.pins.supply = true →
    s.queue = older ++ e :: younger →
    (∀ o ∈ older ++ younger, ¬ (o.master = e.master ∧ o.ticket = e.ticket)) →
    (∀ d, e.deadline = some d → s.clock = some d → exec (.waitExpiry e.master e.ticket) s = .next
      (((s.setQueue (older ++ younger)).waitFail .timeout e).grantScan)) ∧
    ((∀ d, e.deadline = some d → s.clock ≠ some d) → exec (.waitExpiry e.master e.ticket) s = .next s)

/-! ### The laws -/

/-- The machine right after reset keeps every law. Its values are those of a POWER start on a part never written, and
the model's where the manual gives none (log entries 9 and 10). -/
def Obligations.ResetKeepsLaws : Prop := State.reset.safe

/-- The conflict law: no step leaves two windows in force in conflict. -/
def Obligations.ConflictLawKept : Prop := ∀ s t : State, s.safe → step s = .next t → t.conflictLaw

/-- The band law: no step leaves a window of a master other than 0 over the committed band, or a waiter of one over the
effective claim band. -/
def Obligations.BandLawKept : Prop := ∀ s t : State, s.safe → step s = .next t → t.bandLaw

/-- The tallies stay the sums over the table, within the quota and the limit of 24, and fields stay in range. -/
def Obligations.TallyLawKept : Prop := ∀ s t : State, s.safe → step s = .next t → t.tallyLaw ∧ t.rangeLaw

/-- The queue keeps its bounds and its tickets apart, and no step leaves a grantable entry in it. -/
def Obligations.QueueLawKept : Prop := ∀ s t : State, s.safe → step s = .next t → t.queueLaw ∧ t.waitLaw

/-- SESSION and TIMED windows, waiters and watches belong to masters whose sessions are OPEN, after every step. -/
def Obligations.OwnerLawKept : Prop := ∀ s t : State, s.safe → step s = .next t → t.ownerLaw

/-- Windows and slots stay bound one to one, and an IDLE engine leaves nothing due. -/
def Obligations.SlotLawKept : Prop := ∀ s t : State, s.safe → step s = .next t → t.bindingLaw ∧ t.engineLaw

/-- The NOTE lines, deny latches, check port and links keep their laws; LDO is driven exactly while LSEL is low. -/
def Obligations.NoticeLawKept : Prop := ∀ s t : State, s.safe → step s = .next t → t.noticeLaw ∧ t.portLaw

/-- No step passes a deadline or sets one too far ahead, and the part's mode, clock and start-up state agree. -/
def Obligations.TimeLawKept : Prop := ∀ s t : State, s.safe → step s = .next t → t.deadlineLaw ∧ t.startLaw
end

