-- ==== Sys2Proof/Laws/State.lean ====
section
/-! SUPPORT. What each writer of the state leaves: the piece it writes holds the new value, and every other piece is as
it was. All of it by `simp`, so that no proof unfolds a record update. -/

namespace Sys2Proof.Machine

/-! ### setLink -/

@[simp] theorem State.setLink_table (s : State) (i : Master) (v : Link) : (s.setLink i v).table = s.table := rfl
@[simp] theorem State.setLink_tallies (s : State) (i : Master) (v : Link) : (s.setLink i v).tallies = s.tallies := rfl
@[simp] theorem State.setLink_sessions (s : State) (i : Master) (v : Link) :
    (s.setLink i v).sessions = s.sessions := rfl
@[simp] theorem State.setLink_queue (s : State) (i : Master) (v : Link) : (s.setLink i v).queue = s.queue := rfl
@[simp] theorem State.setLink_failures (s : State) (i : Master) (v : Link) :
    (s.setLink i v).failures = s.failures := rfl
@[simp] theorem State.setLink_clock (s : State) (i : Master) (v : Link) : (s.setLink i v).clock = s.clock := rfl
@[simp] theorem State.setLink_check (s : State) (i : Master) (v : Link) : (s.setLink i v).check = s.check := rfl
@[simp] theorem State.setLink_watches (s : State) (i : Master) (v : Link) : (s.setLink i v).watches = s.watches := rfl
@[simp] theorem State.setLink_notices (s : State) (i : Master) (v : Link) : (s.setLink i v).notices = s.notices := rfl
@[simp] theorem State.setLink_slots (s : State) (i : Master) (v : Link) : (s.setLink i v).slots = s.slots := rfl
@[simp] theorem State.setLink_engine (s : State) (i : Master) (v : Link) : (s.setLink i v).engine = s.engine := rfl
@[simp] theorem State.setLink_band (s : State) (i : Master) (v : Link) : (s.setLink i v).band = s.band := rfl
@[simp] theorem State.setLink_startUp (s : State) (i : Master) (v : Link) : (s.setLink i v).startUp = s.startUp := rfl
@[simp] theorem State.setLink_mode (s : State) (i : Master) (v : Link) : (s.setLink i v).mode = s.mode := rfl
@[simp] theorem State.setLink_pins (s : State) (i : Master) (v : Link) : (s.setLink i v).pins = s.pins := rfl
@[simp] theorem State.setLink_pending (s : State) (i : Master) (v : Link) : (s.setLink i v).pending = s.pending := rfl
@[simp] theorem State.setLink_record (s : State) (i : Master) (v : Link) (j : RecIdx) :
    (s.setLink i v).record j = s.record j := rfl
@[simp] theorem State.setLink_tally (s : State) (i : Master) (v : Link) (j : Master) :
    (s.setLink i v).tally j = s.tally j := rfl
@[simp] theorem State.setLink_session (s : State) (i : Master) (v : Link) (j : Master) :
    (s.setLink i v).session j = s.session j := rfl
@[simp] theorem State.setLink_failureList (s : State) (i : Master) (v : Link) (j : Master) :
    (s.setLink i v).failureList j = s.failureList j := rfl
@[simp] theorem State.setLink_watch (s : State) (i : Master) (v : Link) (j : WatchIdx) :
    (s.setLink i v).watch j = s.watch j := rfl
@[simp] theorem State.setLink_notice (s : State) (i : Master) (v : Link) (j : Master) :
    (s.setLink i v).notice j = s.notice j := rfl
@[simp] theorem State.setLink_slot (s : State) (i : Master) (v : Link) (j : SlotIdx) :
    (s.setLink i v).slot j = s.slot j := rfl
@[simp] theorem State.setLink_now (s : State) (i : Master) (v : Link) : (s.setLink i v).now = s.now := rfl
@[simp] theorem State.setLink_after (s : State) (i : Master) (v : Link) (n : Nat) :
    (s.setLink i v).after n = s.after n := rfl
@[simp] theorem State.setLink_ticksTo (s : State) (i : Master) (v : Link) (t : Tick) :
    (s.setLink i v).ticksTo t = s.ticksTo t := rfl
@[simp] theorem State.setLink_reached (s : State) (i : Master) (v : Link) (t : Tick) :
    (s.setLink i v).reached t = s.reached t := rfl
/-- The entry written holds the new value, and every other is as it was. -/
theorem State.setLink_link (s : State) (i : Master) (v : Link) (j : Master) :
    (s.setLink i v).link j = if i = j then v else s.link j := by
  simp [State.setLink, State.link, Vector.getElem_set, Fin.ext_iff]
@[simp] theorem State.setLink_link_same (s : State) (i : Master) (v : Link) : (s.setLink i v).link i = v := by
  simp [State.setLink_link]
theorem State.setLink_link_ne (s : State) (i : Master) (v : Link) (j : Master) (h : i ≠ j) : (s.setLink i v).link j = s.link j := by
  simp [State.setLink_link, h]

/-! ### setRecord -/

@[simp] theorem State.setRecord_links (s : State) (i : RecIdx) (v : WindowRecord) :
    (s.setRecord i v).links = s.links := rfl
@[simp] theorem State.setRecord_tallies (s : State) (i : RecIdx) (v : WindowRecord) :
    (s.setRecord i v).tallies = s.tallies := rfl
@[simp] theorem State.setRecord_sessions (s : State) (i : RecIdx) (v : WindowRecord) :
    (s.setRecord i v).sessions = s.sessions := rfl
@[simp] theorem State.setRecord_queue (s : State) (i : RecIdx) (v : WindowRecord) :
    (s.setRecord i v).queue = s.queue := rfl
@[simp] theorem State.setRecord_failures (s : State) (i : RecIdx) (v : WindowRecord) :
    (s.setRecord i v).failures = s.failures := rfl
@[simp] theorem State.setRecord_clock (s : State) (i : RecIdx) (v : WindowRecord) :
    (s.setRecord i v).clock = s.clock := rfl
@[simp] theorem State.setRecord_check (s : State) (i : RecIdx) (v : WindowRecord) :
    (s.setRecord i v).check = s.check := rfl
@[simp] theorem State.setRecord_watches (s : State) (i : RecIdx) (v : WindowRecord) :
    (s.setRecord i v).watches = s.watches := rfl
@[simp] theorem State.setRecord_notices (s : State) (i : RecIdx) (v : WindowRecord) :
    (s.setRecord i v).notices = s.notices := rfl
@[simp] theorem State.setRecord_slots (s : State) (i : RecIdx) (v : WindowRecord) :
    (s.setRecord i v).slots = s.slots := rfl
@[simp] theorem State.setRecord_engine (s : State) (i : RecIdx) (v : WindowRecord) :
    (s.setRecord i v).engine = s.engine := rfl
@[simp] theorem State.setRecord_band (s : State) (i : RecIdx) (v : WindowRecord) :
    (s.setRecord i v).band = s.band := rfl
@[simp] theorem State.setRecord_startUp (s : State) (i : RecIdx) (v : WindowRecord) :
    (s.setRecord i v).startUp = s.startUp := rfl
@[simp] theorem State.setRecord_mode (s : State) (i : RecIdx) (v : WindowRecord) :
    (s.setRecord i v).mode = s.mode := rfl
@[simp] theorem State.setRecord_pins (s : State) (i : RecIdx) (v : WindowRecord) :
    (s.setRecord i v).pins = s.pins := rfl
@[simp] theorem State.setRecord_pending (s : State) (i : RecIdx) (v : WindowRecord) :
    (s.setRecord i v).pending = s.pending := rfl
@[simp] theorem State.setRecord_link (s : State) (i : RecIdx) (v : WindowRecord) (j : Master) :
    (s.setRecord i v).link j = s.link j := rfl
@[simp] theorem State.setRecord_tally (s : State) (i : RecIdx) (v : WindowRecord) (j : Master) :
    (s.setRecord i v).tally j = s.tally j := rfl
@[simp] theorem State.setRecord_session (s : State) (i : RecIdx) (v : WindowRecord) (j : Master) :
    (s.setRecord i v).session j = s.session j := rfl
@[simp] theorem State.setRecord_failureList (s : State) (i : RecIdx) (v : WindowRecord) (j : Master) :
    (s.setRecord i v).failureList j = s.failureList j := rfl
@[simp] theorem State.setRecord_watch (s : State) (i : RecIdx) (v : WindowRecord) (j : WatchIdx) :
    (s.setRecord i v).watch j = s.watch j := rfl
@[simp] theorem State.setRecord_notice (s : State) (i : RecIdx) (v : WindowRecord) (j : Master) :
    (s.setRecord i v).notice j = s.notice j := rfl
@[simp] theorem State.setRecord_slot (s : State) (i : RecIdx) (v : WindowRecord) (j : SlotIdx) :
    (s.setRecord i v).slot j = s.slot j := rfl
@[simp] theorem State.setRecord_now (s : State) (i : RecIdx) (v : WindowRecord) : (s.setRecord i v).now = s.now := rfl
@[simp] theorem State.setRecord_after (s : State) (i : RecIdx) (v : WindowRecord) (n : Nat) :
    (s.setRecord i v).after n = s.after n := rfl
@[simp] theorem State.setRecord_ticksTo (s : State) (i : RecIdx) (v : WindowRecord) (t : Tick) :
    (s.setRecord i v).ticksTo t = s.ticksTo t := rfl
@[simp] theorem State.setRecord_reached (s : State) (i : RecIdx) (v : WindowRecord) (t : Tick) :
    (s.setRecord i v).reached t = s.reached t := rfl
/-- The entry written holds the new value, and every other is as it was. -/
theorem State.setRecord_record (s : State) (i : RecIdx) (v : WindowRecord) (j : RecIdx) :
    (s.setRecord i v).record j = if i = j then v else s.record j := by
  simp [State.setRecord, State.record, Vector.getElem_set, Fin.ext_iff]
@[simp] theorem State.setRecord_record_same (s : State) (i : RecIdx) (v : WindowRecord) :
    (s.setRecord i v).record i = v := by
  simp [State.setRecord_record]
theorem State.setRecord_record_ne (s : State) (i : RecIdx) (v : WindowRecord) (j : RecIdx) (h : i ≠ j) : (s.setRecord i v).record j = s.record j := by
  simp [State.setRecord_record, h]

/-! ### setTally -/

@[simp] theorem State.setTally_links (s : State) (i : Master) (v : Tally) : (s.setTally i v).links = s.links := rfl
@[simp] theorem State.setTally_table (s : State) (i : Master) (v : Tally) : (s.setTally i v).table = s.table := rfl
@[simp] theorem State.setTally_sessions (s : State) (i : Master) (v : Tally) :
    (s.setTally i v).sessions = s.sessions := rfl
@[simp] theorem State.setTally_queue (s : State) (i : Master) (v : Tally) : (s.setTally i v).queue = s.queue := rfl
@[simp] theorem State.setTally_failures (s : State) (i : Master) (v : Tally) :
    (s.setTally i v).failures = s.failures := rfl
@[simp] theorem State.setTally_clock (s : State) (i : Master) (v : Tally) : (s.setTally i v).clock = s.clock := rfl
@[simp] theorem State.setTally_check (s : State) (i : Master) (v : Tally) : (s.setTally i v).check = s.check := rfl
@[simp] theorem State.setTally_watches (s : State) (i : Master) (v : Tally) :
    (s.setTally i v).watches = s.watches := rfl
@[simp] theorem State.setTally_notices (s : State) (i : Master) (v : Tally) :
    (s.setTally i v).notices = s.notices := rfl
@[simp] theorem State.setTally_slots (s : State) (i : Master) (v : Tally) : (s.setTally i v).slots = s.slots := rfl
@[simp] theorem State.setTally_engine (s : State) (i : Master) (v : Tally) : (s.setTally i v).engine = s.engine := rfl
@[simp] theorem State.setTally_band (s : State) (i : Master) (v : Tally) : (s.setTally i v).band = s.band := rfl
@[simp] theorem State.setTally_startUp (s : State) (i : Master) (v : Tally) :
    (s.setTally i v).startUp = s.startUp := rfl
@[simp] theorem State.setTally_mode (s : State) (i : Master) (v : Tally) :
    (s.setTally i v).mode = s.mode := rfl
@[simp] theorem State.setTally_pins (s : State) (i : Master) (v : Tally) : (s.setTally i v).pins = s.pins := rfl
@[simp] theorem State.setTally_pending (s : State) (i : Master) (v : Tally) :
    (s.setTally i v).pending = s.pending := rfl
@[simp] theorem State.setTally_link (s : State) (i : Master) (v : Tally) (j : Master) :
    (s.setTally i v).link j = s.link j := rfl
@[simp] theorem State.setTally_record (s : State) (i : Master) (v : Tally) (j : RecIdx) :
    (s.setTally i v).record j = s.record j := rfl
@[simp] theorem State.setTally_session (s : State) (i : Master) (v : Tally) (j : Master) :
    (s.setTally i v).session j = s.session j := rfl
@[simp] theorem State.setTally_failureList (s : State) (i : Master) (v : Tally) (j : Master) :
    (s.setTally i v).failureList j = s.failureList j := rfl
@[simp] theorem State.setTally_watch (s : State) (i : Master) (v : Tally) (j : WatchIdx) :
    (s.setTally i v).watch j = s.watch j := rfl
@[simp] theorem State.setTally_notice (s : State) (i : Master) (v : Tally) (j : Master) :
    (s.setTally i v).notice j = s.notice j := rfl
@[simp] theorem State.setTally_slot (s : State) (i : Master) (v : Tally) (j : SlotIdx) :
    (s.setTally i v).slot j = s.slot j := rfl
@[simp] theorem State.setTally_now (s : State) (i : Master) (v : Tally) : (s.setTally i v).now = s.now := rfl
@[simp] theorem State.setTally_after (s : State) (i : Master) (v : Tally) (n : Nat) :
    (s.setTally i v).after n = s.after n := rfl
@[simp] theorem State.setTally_ticksTo (s : State) (i : Master) (v : Tally) (t : Tick) :
    (s.setTally i v).ticksTo t = s.ticksTo t := rfl
@[simp] theorem State.setTally_reached (s : State) (i : Master) (v : Tally) (t : Tick) :
    (s.setTally i v).reached t = s.reached t := rfl
/-- The entry written holds the new value, and every other is as it was. -/
theorem State.setTally_tally (s : State) (i : Master) (v : Tally) (j : Master) :
    (s.setTally i v).tally j = if i = j then v else s.tally j := by
  simp [State.setTally, State.tally, Vector.getElem_set, Fin.ext_iff]
@[simp] theorem State.setTally_tally_same (s : State) (i : Master) (v : Tally) : (s.setTally i v).tally i = v := by
  simp [State.setTally_tally]
theorem State.setTally_tally_ne (s : State) (i : Master) (v : Tally) (j : Master) (h : i ≠ j) : (s.setTally i v).tally j = s.tally j := by
  simp [State.setTally_tally, h]

/-! ### setSession -/

@[simp] theorem State.setSession_links (s : State) (i : Master) (v : Session) :
    (s.setSession i v).links = s.links := rfl
@[simp] theorem State.setSession_table (s : State) (i : Master) (v : Session) :
    (s.setSession i v).table = s.table := rfl
@[simp] theorem State.setSession_tallies (s : State) (i : Master) (v : Session) :
    (s.setSession i v).tallies = s.tallies := rfl
@[simp] theorem State.setSession_queue (s : State) (i : Master) (v : Session) :
    (s.setSession i v).queue = s.queue := rfl
@[simp] theorem State.setSession_failures (s : State) (i : Master) (v : Session) :
    (s.setSession i v).failures = s.failures := rfl
@[simp] theorem State.setSession_clock (s : State) (i : Master) (v : Session) :
    (s.setSession i v).clock = s.clock := rfl
@[simp] theorem State.setSession_check (s : State) (i : Master) (v : Session) :
    (s.setSession i v).check = s.check := rfl
@[simp] theorem State.setSession_watches (s : State) (i : Master) (v : Session) :
    (s.setSession i v).watches = s.watches := rfl
@[simp] theorem State.setSession_notices (s : State) (i : Master) (v : Session) :
    (s.setSession i v).notices = s.notices := rfl
@[simp] theorem State.setSession_slots (s : State) (i : Master) (v : Session) :
    (s.setSession i v).slots = s.slots := rfl
@[simp] theorem State.setSession_engine (s : State) (i : Master) (v : Session) :
    (s.setSession i v).engine = s.engine := rfl
@[simp] theorem State.setSession_band (s : State) (i : Master) (v : Session) : (s.setSession i v).band = s.band := rfl
@[simp] theorem State.setSession_startUp (s : State) (i : Master) (v : Session) :
    (s.setSession i v).startUp = s.startUp := rfl
@[simp] theorem State.setSession_mode (s : State) (i : Master) (v : Session) :
    (s.setSession i v).mode = s.mode := rfl
@[simp] theorem State.setSession_pins (s : State) (i : Master) (v : Session) : (s.setSession i v).pins = s.pins := rfl
@[simp] theorem State.setSession_pending (s : State) (i : Master) (v : Session) :
    (s.setSession i v).pending = s.pending := rfl
@[simp] theorem State.setSession_link (s : State) (i : Master) (v : Session) (j : Master) :
    (s.setSession i v).link j = s.link j := rfl
@[simp] theorem State.setSession_record (s : State) (i : Master) (v : Session) (j : RecIdx) :
    (s.setSession i v).record j = s.record j := rfl
@[simp] theorem State.setSession_tally (s : State) (i : Master) (v : Session) (j : Master) :
    (s.setSession i v).tally j = s.tally j := rfl
@[simp] theorem State.setSession_failureList (s : State) (i : Master) (v : Session) (j : Master) :
    (s.setSession i v).failureList j = s.failureList j := rfl
@[simp] theorem State.setSession_watch (s : State) (i : Master) (v : Session) (j : WatchIdx) :
    (s.setSession i v).watch j = s.watch j := rfl
@[simp] theorem State.setSession_notice (s : State) (i : Master) (v : Session) (j : Master) :
    (s.setSession i v).notice j = s.notice j := rfl
@[simp] theorem State.setSession_slot (s : State) (i : Master) (v : Session) (j : SlotIdx) :
    (s.setSession i v).slot j = s.slot j := rfl
@[simp] theorem State.setSession_now (s : State) (i : Master) (v : Session) : (s.setSession i v).now = s.now := rfl
@[simp] theorem State.setSession_after (s : State) (i : Master) (v : Session) (n : Nat) :
    (s.setSession i v).after n = s.after n := rfl
@[simp] theorem State.setSession_ticksTo (s : State) (i : Master) (v : Session) (t : Tick) :
    (s.setSession i v).ticksTo t = s.ticksTo t := rfl
@[simp] theorem State.setSession_reached (s : State) (i : Master) (v : Session) (t : Tick) :
    (s.setSession i v).reached t = s.reached t := rfl
/-- The entry written holds the new value, and every other is as it was. -/
theorem State.setSession_session (s : State) (i : Master) (v : Session) (j : Master) :
    (s.setSession i v).session j = if i = j then v else s.session j := by
  simp [State.setSession, State.session, Vector.getElem_set, Fin.ext_iff]
@[simp] theorem State.setSession_session_same (s : State) (i : Master) (v : Session) :
    (s.setSession i v).session i = v := by
  simp [State.setSession_session]
theorem State.setSession_session_ne (s : State) (i : Master) (v : Session) (j : Master) (h : i ≠ j) : (s.setSession i v).session j = s.session j := by
  simp [State.setSession_session, h]

/-! ### setQueue -/

@[simp] theorem State.setQueue_links (s : State) (v : List Waiter) : (s.setQueue v).links = s.links := rfl
@[simp] theorem State.setQueue_table (s : State) (v : List Waiter) : (s.setQueue v).table = s.table := rfl
@[simp] theorem State.setQueue_tallies (s : State) (v : List Waiter) : (s.setQueue v).tallies = s.tallies := rfl
@[simp] theorem State.setQueue_sessions (s : State) (v : List Waiter) : (s.setQueue v).sessions = s.sessions := rfl
@[simp] theorem State.setQueue_failures (s : State) (v : List Waiter) : (s.setQueue v).failures = s.failures := rfl
@[simp] theorem State.setQueue_clock (s : State) (v : List Waiter) : (s.setQueue v).clock = s.clock := rfl
@[simp] theorem State.setQueue_check (s : State) (v : List Waiter) : (s.setQueue v).check = s.check := rfl
@[simp] theorem State.setQueue_watches (s : State) (v : List Waiter) : (s.setQueue v).watches = s.watches := rfl
@[simp] theorem State.setQueue_notices (s : State) (v : List Waiter) : (s.setQueue v).notices = s.notices := rfl
@[simp] theorem State.setQueue_slots (s : State) (v : List Waiter) : (s.setQueue v).slots = s.slots := rfl
@[simp] theorem State.setQueue_engine (s : State) (v : List Waiter) : (s.setQueue v).engine = s.engine := rfl
@[simp] theorem State.setQueue_band (s : State) (v : List Waiter) : (s.setQueue v).band = s.band := rfl
@[simp] theorem State.setQueue_startUp (s : State) (v : List Waiter) : (s.setQueue v).startUp = s.startUp := rfl
@[simp] theorem State.setQueue_mode (s : State) (v : List Waiter) : (s.setQueue v).mode = s.mode := rfl
@[simp] theorem State.setQueue_pins (s : State) (v : List Waiter) : (s.setQueue v).pins = s.pins := rfl
@[simp] theorem State.setQueue_pending (s : State) (v : List Waiter) : (s.setQueue v).pending = s.pending := rfl
@[simp] theorem State.setQueue_link (s : State) (v : List Waiter) (j : Master) :
    (s.setQueue v).link j = s.link j := rfl
@[simp] theorem State.setQueue_record (s : State) (v : List Waiter) (j : RecIdx) :
    (s.setQueue v).record j = s.record j := rfl
@[simp] theorem State.setQueue_tally (s : State) (v : List Waiter) (j : Master) :
    (s.setQueue v).tally j = s.tally j := rfl
@[simp] theorem State.setQueue_session (s : State) (v : List Waiter) (j : Master) :
    (s.setQueue v).session j = s.session j := rfl
@[simp] theorem State.setQueue_failureList (s : State) (v : List Waiter) (j : Master) :
    (s.setQueue v).failureList j = s.failureList j := rfl
@[simp] theorem State.setQueue_watch (s : State) (v : List Waiter) (j : WatchIdx) :
    (s.setQueue v).watch j = s.watch j := rfl
@[simp] theorem State.setQueue_notice (s : State) (v : List Waiter) (j : Master) :
    (s.setQueue v).notice j = s.notice j := rfl
@[simp] theorem State.setQueue_slot (s : State) (v : List Waiter) (j : SlotIdx) :
    (s.setQueue v).slot j = s.slot j := rfl
@[simp] theorem State.setQueue_now (s : State) (v : List Waiter) : (s.setQueue v).now = s.now := rfl
@[simp] theorem State.setQueue_after (s : State) (v : List Waiter) (n : Nat) :
    (s.setQueue v).after n = s.after n := rfl
@[simp] theorem State.setQueue_ticksTo (s : State) (v : List Waiter) (t : Tick) :
    (s.setQueue v).ticksTo t = s.ticksTo t := rfl
@[simp] theorem State.setQueue_reached (s : State) (v : List Waiter) (t : Tick) :
    (s.setQueue v).reached t = s.reached t := rfl
@[simp] theorem State.setQueue_queue (s : State) (v : List Waiter) : (s.setQueue v).queue = v := rfl

/-! ### setFailureList -/

@[simp] theorem State.setFailureList_links (s : State) (i : Master) (v : List Failure) :
    (s.setFailureList i v).links = s.links := rfl
@[simp] theorem State.setFailureList_table (s : State) (i : Master) (v : List Failure) :
    (s.setFailureList i v).table = s.table := rfl
@[simp] theorem State.setFailureList_tallies (s : State) (i : Master) (v : List Failure) :
    (s.setFailureList i v).tallies = s.tallies := rfl
@[simp] theorem State.setFailureList_sessions (s : State) (i : Master) (v : List Failure) :
    (s.setFailureList i v).sessions = s.sessions := rfl
@[simp] theorem State.setFailureList_queue (s : State) (i : Master) (v : List Failure) :
    (s.setFailureList i v).queue = s.queue := rfl
@[simp] theorem State.setFailureList_clock (s : State) (i : Master) (v : List Failure) :
    (s.setFailureList i v).clock = s.clock := rfl
@[simp] theorem State.setFailureList_check (s : State) (i : Master) (v : List Failure) :
    (s.setFailureList i v).check = s.check := rfl
@[simp] theorem State.setFailureList_watches (s : State) (i : Master) (v : List Failure) :
    (s.setFailureList i v).watches = s.watches := rfl
@[simp] theorem State.setFailureList_notices (s : State) (i : Master) (v : List Failure) :
    (s.setFailureList i v).notices = s.notices := rfl
@[simp] theorem State.setFailureList_slots (s : State) (i : Master) (v : List Failure) :
    (s.setFailureList i v).slots = s.slots := rfl
@[simp] theorem State.setFailureList_engine (s : State) (i : Master) (v : List Failure) :
    (s.setFailureList i v).engine = s.engine := rfl
@[simp] theorem State.setFailureList_band (s : State) (i : Master) (v : List Failure) :
    (s.setFailureList i v).band = s.band := rfl
@[simp] theorem State.setFailureList_startUp (s : State) (i : Master) (v : List Failure) :
    (s.setFailureList i v).startUp = s.startUp := rfl
@[simp] theorem State.setFailureList_mode (s : State) (i : Master) (v : List Failure) :
    (s.setFailureList i v).mode = s.mode := rfl
@[simp] theorem State.setFailureList_pins (s : State) (i : Master) (v : List Failure) :
    (s.setFailureList i v).pins = s.pins := rfl
@[simp] theorem State.setFailureList_pending (s : State) (i : Master) (v : List Failure) :
    (s.setFailureList i v).pending = s.pending := rfl
@[simp] theorem State.setFailureList_link (s : State) (i : Master) (v : List Failure) (j : Master) :
    (s.setFailureList i v).link j = s.link j := rfl
@[simp] theorem State.setFailureList_record (s : State) (i : Master) (v : List Failure) (j : RecIdx) :
    (s.setFailureList i v).record j = s.record j := rfl
@[simp] theorem State.setFailureList_tally (s : State) (i : Master) (v : List Failure) (j : Master) :
    (s.setFailureList i v).tally j = s.tally j := rfl
@[simp] theorem State.setFailureList_session (s : State) (i : Master) (v : List Failure) (j : Master) :
    (s.setFailureList i v).session j = s.session j := rfl
@[simp] theorem State.setFailureList_watch (s : State) (i : Master) (v : List Failure) (j : WatchIdx) :
    (s.setFailureList i v).watch j = s.watch j := rfl
@[simp] theorem State.setFailureList_notice (s : State) (i : Master) (v : List Failure) (j : Master) :
    (s.setFailureList i v).notice j = s.notice j := rfl
@[simp] theorem State.setFailureList_slot (s : State) (i : Master) (v : List Failure) (j : SlotIdx) :
    (s.setFailureList i v).slot j = s.slot j := rfl
@[simp] theorem State.setFailureList_now (s : State) (i : Master) (v : List Failure) :
    (s.setFailureList i v).now = s.now := rfl
@[simp] theorem State.setFailureList_after (s : State) (i : Master) (v : List Failure) (n : Nat) :
    (s.setFailureList i v).after n = s.after n := rfl
@[simp] theorem State.setFailureList_ticksTo (s : State) (i : Master) (v : List Failure) (t : Tick) :
    (s.setFailureList i v).ticksTo t = s.ticksTo t := rfl
@[simp] theorem State.setFailureList_reached (s : State) (i : Master) (v : List Failure) (t : Tick) :
    (s.setFailureList i v).reached t = s.reached t := rfl
/-- The entry written holds the new value, and every other is as it was. -/
theorem State.setFailureList_failureList (s : State) (i : Master) (v : List Failure) (j : Master) :
    (s.setFailureList i v).failureList j = if i = j then v else s.failureList j := by
  simp [State.setFailureList, State.failureList, Vector.getElem_set, Fin.ext_iff]
@[simp] theorem State.setFailureList_failureList_same (s : State) (i : Master) (v : List Failure) :
    (s.setFailureList i v).failureList i = v := by
  simp [State.setFailureList_failureList]
theorem State.setFailureList_failureList_ne (s : State) (i : Master) (v : List Failure) (j : Master) (h : i ≠ j) : (s.setFailureList i v).failureList j = s.failureList j := by
  simp [State.setFailureList_failureList, h]

/-! ### setClock -/

@[simp] theorem State.setClock_links (s : State) (v : Option Tick) : (s.setClock v).links = s.links := rfl
@[simp] theorem State.setClock_table (s : State) (v : Option Tick) : (s.setClock v).table = s.table := rfl
@[simp] theorem State.setClock_tallies (s : State) (v : Option Tick) : (s.setClock v).tallies = s.tallies := rfl
@[simp] theorem State.setClock_sessions (s : State) (v : Option Tick) : (s.setClock v).sessions = s.sessions := rfl
@[simp] theorem State.setClock_queue (s : State) (v : Option Tick) : (s.setClock v).queue = s.queue := rfl
@[simp] theorem State.setClock_failures (s : State) (v : Option Tick) : (s.setClock v).failures = s.failures := rfl
@[simp] theorem State.setClock_check (s : State) (v : Option Tick) : (s.setClock v).check = s.check := rfl
@[simp] theorem State.setClock_watches (s : State) (v : Option Tick) : (s.setClock v).watches = s.watches := rfl
@[simp] theorem State.setClock_notices (s : State) (v : Option Tick) : (s.setClock v).notices = s.notices := rfl
@[simp] theorem State.setClock_slots (s : State) (v : Option Tick) : (s.setClock v).slots = s.slots := rfl
@[simp] theorem State.setClock_engine (s : State) (v : Option Tick) : (s.setClock v).engine = s.engine := rfl
@[simp] theorem State.setClock_band (s : State) (v : Option Tick) : (s.setClock v).band = s.band := rfl
@[simp] theorem State.setClock_startUp (s : State) (v : Option Tick) : (s.setClock v).startUp = s.startUp := rfl
@[simp] theorem State.setClock_mode (s : State) (v : Option Tick) : (s.setClock v).mode = s.mode := rfl
@[simp] theorem State.setClock_pins (s : State) (v : Option Tick) : (s.setClock v).pins = s.pins := rfl
@[simp] theorem State.setClock_pending (s : State) (v : Option Tick) : (s.setClock v).pending = s.pending := rfl
@[simp] theorem State.setClock_link (s : State) (v : Option Tick) (j : Master) :
    (s.setClock v).link j = s.link j := rfl
@[simp] theorem State.setClock_record (s : State) (v : Option Tick) (j : RecIdx) :
    (s.setClock v).record j = s.record j := rfl
@[simp] theorem State.setClock_tally (s : State) (v : Option Tick) (j : Master) :
    (s.setClock v).tally j = s.tally j := rfl
@[simp] theorem State.setClock_session (s : State) (v : Option Tick) (j : Master) :
    (s.setClock v).session j = s.session j := rfl
@[simp] theorem State.setClock_failureList (s : State) (v : Option Tick) (j : Master) :
    (s.setClock v).failureList j = s.failureList j := rfl
@[simp] theorem State.setClock_watch (s : State) (v : Option Tick) (j : WatchIdx) :
    (s.setClock v).watch j = s.watch j := rfl
@[simp] theorem State.setClock_notice (s : State) (v : Option Tick) (j : Master) :
    (s.setClock v).notice j = s.notice j := rfl
@[simp] theorem State.setClock_slot (s : State) (v : Option Tick) (j : SlotIdx) :
    (s.setClock v).slot j = s.slot j := rfl
@[simp] theorem State.setClock_clock (s : State) (v : Option Tick) : (s.setClock v).clock = v := rfl

/-! ### setCheck -/

@[simp] theorem State.setCheck_links (s : State) (v : CheckUnit) : (s.setCheck v).links = s.links := rfl
@[simp] theorem State.setCheck_table (s : State) (v : CheckUnit) : (s.setCheck v).table = s.table := rfl
@[simp] theorem State.setCheck_tallies (s : State) (v : CheckUnit) : (s.setCheck v).tallies = s.tallies := rfl
@[simp] theorem State.setCheck_sessions (s : State) (v : CheckUnit) : (s.setCheck v).sessions = s.sessions := rfl
@[simp] theorem State.setCheck_queue (s : State) (v : CheckUnit) : (s.setCheck v).queue = s.queue := rfl
@[simp] theorem State.setCheck_failures (s : State) (v : CheckUnit) : (s.setCheck v).failures = s.failures := rfl
@[simp] theorem State.setCheck_clock (s : State) (v : CheckUnit) : (s.setCheck v).clock = s.clock := rfl
@[simp] theorem State.setCheck_watches (s : State) (v : CheckUnit) : (s.setCheck v).watches = s.watches := rfl
@[simp] theorem State.setCheck_notices (s : State) (v : CheckUnit) : (s.setCheck v).notices = s.notices := rfl
@[simp] theorem State.setCheck_slots (s : State) (v : CheckUnit) : (s.setCheck v).slots = s.slots := rfl
@[simp] theorem State.setCheck_engine (s : State) (v : CheckUnit) : (s.setCheck v).engine = s.engine := rfl
@[simp] theorem State.setCheck_band (s : State) (v : CheckUnit) : (s.setCheck v).band = s.band := rfl
@[simp] theorem State.setCheck_startUp (s : State) (v : CheckUnit) : (s.setCheck v).startUp = s.startUp := rfl
@[simp] theorem State.setCheck_mode (s : State) (v : CheckUnit) : (s.setCheck v).mode = s.mode := rfl
@[simp] theorem State.setCheck_pins (s : State) (v : CheckUnit) : (s.setCheck v).pins = s.pins := rfl
@[simp] theorem State.setCheck_pending (s : State) (v : CheckUnit) : (s.setCheck v).pending = s.pending := rfl
@[simp] theorem State.setCheck_link (s : State) (v : CheckUnit) (j : Master) : (s.setCheck v).link j = s.link j := rfl
@[simp] theorem State.setCheck_record (s : State) (v : CheckUnit) (j : RecIdx) :
    (s.setCheck v).record j = s.record j := rfl
@[simp] theorem State.setCheck_tally (s : State) (v : CheckUnit) (j : Master) :
    (s.setCheck v).tally j = s.tally j := rfl
@[simp] theorem State.setCheck_session (s : State) (v : CheckUnit) (j : Master) :
    (s.setCheck v).session j = s.session j := rfl
@[simp] theorem State.setCheck_failureList (s : State) (v : CheckUnit) (j : Master) :
    (s.setCheck v).failureList j = s.failureList j := rfl
@[simp] theorem State.setCheck_watch (s : State) (v : CheckUnit) (j : WatchIdx) :
    (s.setCheck v).watch j = s.watch j := rfl
@[simp] theorem State.setCheck_notice (s : State) (v : CheckUnit) (j : Master) :
    (s.setCheck v).notice j = s.notice j := rfl
@[simp] theorem State.setCheck_slot (s : State) (v : CheckUnit) (j : SlotIdx) :
    (s.setCheck v).slot j = s.slot j := rfl
@[simp] theorem State.setCheck_now (s : State) (v : CheckUnit) : (s.setCheck v).now = s.now := rfl
@[simp] theorem State.setCheck_after (s : State) (v : CheckUnit) (n : Nat) : (s.setCheck v).after n = s.after n := rfl
@[simp] theorem State.setCheck_ticksTo (s : State) (v : CheckUnit) (t : Tick) :
    (s.setCheck v).ticksTo t = s.ticksTo t := rfl
@[simp] theorem State.setCheck_reached (s : State) (v : CheckUnit) (t : Tick) :
    (s.setCheck v).reached t = s.reached t := rfl
@[simp] theorem State.setCheck_check (s : State) (v : CheckUnit) : (s.setCheck v).check = v := rfl

/-! ### setWatch -/

@[simp] theorem State.setWatch_links (s : State) (i : WatchIdx) (v : WatchRecord) :
    (s.setWatch i v).links = s.links := rfl
@[simp] theorem State.setWatch_table (s : State) (i : WatchIdx) (v : WatchRecord) :
    (s.setWatch i v).table = s.table := rfl
@[simp] theorem State.setWatch_tallies (s : State) (i : WatchIdx) (v : WatchRecord) :
    (s.setWatch i v).tallies = s.tallies := rfl
@[simp] theorem State.setWatch_sessions (s : State) (i : WatchIdx) (v : WatchRecord) :
    (s.setWatch i v).sessions = s.sessions := rfl
@[simp] theorem State.setWatch_queue (s : State) (i : WatchIdx) (v : WatchRecord) :
    (s.setWatch i v).queue = s.queue := rfl
@[simp] theorem State.setWatch_failures (s : State) (i : WatchIdx) (v : WatchRecord) :
    (s.setWatch i v).failures = s.failures := rfl
@[simp] theorem State.setWatch_clock (s : State) (i : WatchIdx) (v : WatchRecord) :
    (s.setWatch i v).clock = s.clock := rfl
@[simp] theorem State.setWatch_check (s : State) (i : WatchIdx) (v : WatchRecord) :
    (s.setWatch i v).check = s.check := rfl
@[simp] theorem State.setWatch_notices (s : State) (i : WatchIdx) (v : WatchRecord) :
    (s.setWatch i v).notices = s.notices := rfl
@[simp] theorem State.setWatch_slots (s : State) (i : WatchIdx) (v : WatchRecord) :
    (s.setWatch i v).slots = s.slots := rfl
@[simp] theorem State.setWatch_engine (s : State) (i : WatchIdx) (v : WatchRecord) :
    (s.setWatch i v).engine = s.engine := rfl
@[simp] theorem State.setWatch_band (s : State) (i : WatchIdx) (v : WatchRecord) :
    (s.setWatch i v).band = s.band := rfl
@[simp] theorem State.setWatch_startUp (s : State) (i : WatchIdx) (v : WatchRecord) :
    (s.setWatch i v).startUp = s.startUp := rfl
@[simp] theorem State.setWatch_mode (s : State) (i : WatchIdx) (v : WatchRecord) :
    (s.setWatch i v).mode = s.mode := rfl
@[simp] theorem State.setWatch_pins (s : State) (i : WatchIdx) (v : WatchRecord) :
    (s.setWatch i v).pins = s.pins := rfl
@[simp] theorem State.setWatch_pending (s : State) (i : WatchIdx) (v : WatchRecord) :
    (s.setWatch i v).pending = s.pending := rfl
@[simp] theorem State.setWatch_link (s : State) (i : WatchIdx) (v : WatchRecord) (j : Master) :
    (s.setWatch i v).link j = s.link j := rfl
@[simp] theorem State.setWatch_record (s : State) (i : WatchIdx) (v : WatchRecord) (j : RecIdx) :
    (s.setWatch i v).record j = s.record j := rfl
@[simp] theorem State.setWatch_tally (s : State) (i : WatchIdx) (v : WatchRecord) (j : Master) :
    (s.setWatch i v).tally j = s.tally j := rfl
@[simp] theorem State.setWatch_session (s : State) (i : WatchIdx) (v : WatchRecord) (j : Master) :
    (s.setWatch i v).session j = s.session j := rfl
@[simp] theorem State.setWatch_failureList (s : State) (i : WatchIdx) (v : WatchRecord) (j : Master) :
    (s.setWatch i v).failureList j = s.failureList j := rfl
@[simp] theorem State.setWatch_notice (s : State) (i : WatchIdx) (v : WatchRecord) (j : Master) :
    (s.setWatch i v).notice j = s.notice j := rfl
@[simp] theorem State.setWatch_slot (s : State) (i : WatchIdx) (v : WatchRecord) (j : SlotIdx) :
    (s.setWatch i v).slot j = s.slot j := rfl
@[simp] theorem State.setWatch_now (s : State) (i : WatchIdx) (v : WatchRecord) : (s.setWatch i v).now = s.now := rfl
@[simp] theorem State.setWatch_after (s : State) (i : WatchIdx) (v : WatchRecord) (n : Nat) :
    (s.setWatch i v).after n = s.after n := rfl
@[simp] theorem State.setWatch_ticksTo (s : State) (i : WatchIdx) (v : WatchRecord) (t : Tick) :
    (s.setWatch i v).ticksTo t = s.ticksTo t := rfl
@[simp] theorem State.setWatch_reached (s : State) (i : WatchIdx) (v : WatchRecord) (t : Tick) :
    (s.setWatch i v).reached t = s.reached t := rfl
/-- The entry written holds the new value, and every other is as it was. -/
theorem State.setWatch_watch (s : State) (i : WatchIdx) (v : WatchRecord) (j : WatchIdx) :
    (s.setWatch i v).watch j = if i = j then v else s.watch j := by
  simp [State.setWatch, State.watch, Vector.getElem_set, Fin.ext_iff]
@[simp] theorem State.setWatch_watch_same (s : State) (i : WatchIdx) (v : WatchRecord) :
    (s.setWatch i v).watch i = v := by
  simp [State.setWatch_watch]
theorem State.setWatch_watch_ne (s : State) (i : WatchIdx) (v : WatchRecord) (j : WatchIdx) (h : i ≠ j) : (s.setWatch i v).watch j = s.watch j := by
  simp [State.setWatch_watch, h]

/-! ### setNotice -/

@[simp] theorem State.setNotice_links (s : State) (i : Master) (v : Notice) : (s.setNotice i v).links = s.links := rfl
@[simp] theorem State.setNotice_table (s : State) (i : Master) (v : Notice) : (s.setNotice i v).table = s.table := rfl
@[simp] theorem State.setNotice_tallies (s : State) (i : Master) (v : Notice) :
    (s.setNotice i v).tallies = s.tallies := rfl
@[simp] theorem State.setNotice_sessions (s : State) (i : Master) (v : Notice) :
    (s.setNotice i v).sessions = s.sessions := rfl
@[simp] theorem State.setNotice_queue (s : State) (i : Master) (v : Notice) : (s.setNotice i v).queue = s.queue := rfl
@[simp] theorem State.setNotice_failures (s : State) (i : Master) (v : Notice) :
    (s.setNotice i v).failures = s.failures := rfl
@[simp] theorem State.setNotice_clock (s : State) (i : Master) (v : Notice) : (s.setNotice i v).clock = s.clock := rfl
@[simp] theorem State.setNotice_check (s : State) (i : Master) (v : Notice) : (s.setNotice i v).check = s.check := rfl
@[simp] theorem State.setNotice_watches (s : State) (i : Master) (v : Notice) :
    (s.setNotice i v).watches = s.watches := rfl
@[simp] theorem State.setNotice_slots (s : State) (i : Master) (v : Notice) : (s.setNotice i v).slots = s.slots := rfl
@[simp] theorem State.setNotice_engine (s : State) (i : Master) (v : Notice) :
    (s.setNotice i v).engine = s.engine := rfl
@[simp] theorem State.setNotice_band (s : State) (i : Master) (v : Notice) : (s.setNotice i v).band = s.band := rfl
@[simp] theorem State.setNotice_startUp (s : State) (i : Master) (v : Notice) :
    (s.setNotice i v).startUp = s.startUp := rfl
@[simp] theorem State.setNotice_mode (s : State) (i : Master) (v : Notice) :
    (s.setNotice i v).mode = s.mode := rfl
@[simp] theorem State.setNotice_pins (s : State) (i : Master) (v : Notice) : (s.setNotice i v).pins = s.pins := rfl
@[simp] theorem State.setNotice_pending (s : State) (i : Master) (v : Notice) :
    (s.setNotice i v).pending = s.pending := rfl
@[simp] theorem State.setNotice_link (s : State) (i : Master) (v : Notice) (j : Master) :
    (s.setNotice i v).link j = s.link j := rfl
@[simp] theorem State.setNotice_record (s : State) (i : Master) (v : Notice) (j : RecIdx) :
    (s.setNotice i v).record j = s.record j := rfl
@[simp] theorem State.setNotice_tally (s : State) (i : Master) (v : Notice) (j : Master) :
    (s.setNotice i v).tally j = s.tally j := rfl
@[simp] theorem State.setNotice_session (s : State) (i : Master) (v : Notice) (j : Master) :
    (s.setNotice i v).session j = s.session j := rfl
@[simp] theorem State.setNotice_failureList (s : State) (i : Master) (v : Notice) (j : Master) :
    (s.setNotice i v).failureList j = s.failureList j := rfl
@[simp] theorem State.setNotice_watch (s : State) (i : Master) (v : Notice) (j : WatchIdx) :
    (s.setNotice i v).watch j = s.watch j := rfl
@[simp] theorem State.setNotice_slot (s : State) (i : Master) (v : Notice) (j : SlotIdx) :
    (s.setNotice i v).slot j = s.slot j := rfl
@[simp] theorem State.setNotice_now (s : State) (i : Master) (v : Notice) : (s.setNotice i v).now = s.now := rfl
@[simp] theorem State.setNotice_after (s : State) (i : Master) (v : Notice) (n : Nat) :
    (s.setNotice i v).after n = s.after n := rfl
@[simp] theorem State.setNotice_ticksTo (s : State) (i : Master) (v : Notice) (t : Tick) :
    (s.setNotice i v).ticksTo t = s.ticksTo t := rfl
@[simp] theorem State.setNotice_reached (s : State) (i : Master) (v : Notice) (t : Tick) :
    (s.setNotice i v).reached t = s.reached t := rfl
/-- The entry written holds the new value, and every other is as it was. -/
theorem State.setNotice_notice (s : State) (i : Master) (v : Notice) (j : Master) :
    (s.setNotice i v).notice j = if i = j then v else s.notice j := by
  simp [State.setNotice, State.notice, Vector.getElem_set, Fin.ext_iff]
@[simp] theorem State.setNotice_notice_same (s : State) (i : Master) (v : Notice) :
    (s.setNotice i v).notice i = v := by
  simp [State.setNotice_notice]
theorem State.setNotice_notice_ne (s : State) (i : Master) (v : Notice) (j : Master) (h : i ≠ j) : (s.setNotice i v).notice j = s.notice j := by
  simp [State.setNotice_notice, h]

/-! ### setSlot -/

@[simp] theorem State.setSlot_links (s : State) (i : SlotIdx) (v : Slot) : (s.setSlot i v).links = s.links := rfl
@[simp] theorem State.setSlot_table (s : State) (i : SlotIdx) (v : Slot) : (s.setSlot i v).table = s.table := rfl
@[simp] theorem State.setSlot_tallies (s : State) (i : SlotIdx) (v : Slot) :
    (s.setSlot i v).tallies = s.tallies := rfl
@[simp] theorem State.setSlot_sessions (s : State) (i : SlotIdx) (v : Slot) :
    (s.setSlot i v).sessions = s.sessions := rfl
@[simp] theorem State.setSlot_queue (s : State) (i : SlotIdx) (v : Slot) : (s.setSlot i v).queue = s.queue := rfl
@[simp] theorem State.setSlot_failures (s : State) (i : SlotIdx) (v : Slot) :
    (s.setSlot i v).failures = s.failures := rfl
@[simp] theorem State.setSlot_clock (s : State) (i : SlotIdx) (v : Slot) : (s.setSlot i v).clock = s.clock := rfl
@[simp] theorem State.setSlot_check (s : State) (i : SlotIdx) (v : Slot) : (s.setSlot i v).check = s.check := rfl
@[simp] theorem State.setSlot_watches (s : State) (i : SlotIdx) (v : Slot) :
    (s.setSlot i v).watches = s.watches := rfl
@[simp] theorem State.setSlot_notices (s : State) (i : SlotIdx) (v : Slot) :
    (s.setSlot i v).notices = s.notices := rfl
@[simp] theorem State.setSlot_engine (s : State) (i : SlotIdx) (v : Slot) : (s.setSlot i v).engine = s.engine := rfl
@[simp] theorem State.setSlot_band (s : State) (i : SlotIdx) (v : Slot) : (s.setSlot i v).band = s.band := rfl
@[simp] theorem State.setSlot_startUp (s : State) (i : SlotIdx) (v : Slot) :
    (s.setSlot i v).startUp = s.startUp := rfl
@[simp] theorem State.setSlot_mode (s : State) (i : SlotIdx) (v : Slot) :
    (s.setSlot i v).mode = s.mode := rfl
@[simp] theorem State.setSlot_pins (s : State) (i : SlotIdx) (v : Slot) : (s.setSlot i v).pins = s.pins := rfl
@[simp] theorem State.setSlot_pending (s : State) (i : SlotIdx) (v : Slot) :
    (s.setSlot i v).pending = s.pending := rfl
@[simp] theorem State.setSlot_link (s : State) (i : SlotIdx) (v : Slot) (j : Master) :
    (s.setSlot i v).link j = s.link j := rfl
@[simp] theorem State.setSlot_record (s : State) (i : SlotIdx) (v : Slot) (j : RecIdx) :
    (s.setSlot i v).record j = s.record j := rfl
@[simp] theorem State.setSlot_tally (s : State) (i : SlotIdx) (v : Slot) (j : Master) :
    (s.setSlot i v).tally j = s.tally j := rfl
@[simp] theorem State.setSlot_session (s : State) (i : SlotIdx) (v : Slot) (j : Master) :
    (s.setSlot i v).session j = s.session j := rfl
@[simp] theorem State.setSlot_failureList (s : State) (i : SlotIdx) (v : Slot) (j : Master) :
    (s.setSlot i v).failureList j = s.failureList j := rfl
@[simp] theorem State.setSlot_watch (s : State) (i : SlotIdx) (v : Slot) (j : WatchIdx) :
    (s.setSlot i v).watch j = s.watch j := rfl
@[simp] theorem State.setSlot_notice (s : State) (i : SlotIdx) (v : Slot) (j : Master) :
    (s.setSlot i v).notice j = s.notice j := rfl
@[simp] theorem State.setSlot_now (s : State) (i : SlotIdx) (v : Slot) : (s.setSlot i v).now = s.now := rfl
@[simp] theorem State.setSlot_after (s : State) (i : SlotIdx) (v : Slot) (n : Nat) :
    (s.setSlot i v).after n = s.after n := rfl
@[simp] theorem State.setSlot_ticksTo (s : State) (i : SlotIdx) (v : Slot) (t : Tick) :
    (s.setSlot i v).ticksTo t = s.ticksTo t := rfl
@[simp] theorem State.setSlot_reached (s : State) (i : SlotIdx) (v : Slot) (t : Tick) :
    (s.setSlot i v).reached t = s.reached t := rfl
/-- The entry written holds the new value, and every other is as it was. -/
theorem State.setSlot_slot (s : State) (i : SlotIdx) (v : Slot) (j : SlotIdx) :
    (s.setSlot i v).slot j = if i = j then v else s.slot j := by
  simp [State.setSlot, State.slot, Vector.getElem_set, Fin.ext_iff]
@[simp] theorem State.setSlot_slot_same (s : State) (i : SlotIdx) (v : Slot) : (s.setSlot i v).slot i = v := by
  simp [State.setSlot_slot]
theorem State.setSlot_slot_ne (s : State) (i : SlotIdx) (v : Slot) (j : SlotIdx) (h : i ≠ j) : (s.setSlot i v).slot j = s.slot j := by
  simp [State.setSlot_slot, h]

/-! ### setEngine -/

@[simp] theorem State.setEngine_links (s : State) (v : Engine) : (s.setEngine v).links = s.links := rfl
@[simp] theorem State.setEngine_table (s : State) (v : Engine) : (s.setEngine v).table = s.table := rfl
@[simp] theorem State.setEngine_tallies (s : State) (v : Engine) : (s.setEngine v).tallies = s.tallies := rfl
@[simp] theorem State.setEngine_sessions (s : State) (v : Engine) : (s.setEngine v).sessions = s.sessions := rfl
@[simp] theorem State.setEngine_queue (s : State) (v : Engine) : (s.setEngine v).queue = s.queue := rfl
@[simp] theorem State.setEngine_failures (s : State) (v : Engine) : (s.setEngine v).failures = s.failures := rfl
@[simp] theorem State.setEngine_clock (s : State) (v : Engine) : (s.setEngine v).clock = s.clock := rfl
@[simp] theorem State.setEngine_check (s : State) (v : Engine) : (s.setEngine v).check = s.check := rfl
@[simp] theorem State.setEngine_watches (s : State) (v : Engine) : (s.setEngine v).watches = s.watches := rfl
@[simp] theorem State.setEngine_notices (s : State) (v : Engine) : (s.setEngine v).notices = s.notices := rfl
@[simp] theorem State.setEngine_slots (s : State) (v : Engine) : (s.setEngine v).slots = s.slots := rfl
@[simp] theorem State.setEngine_band (s : State) (v : Engine) : (s.setEngine v).band = s.band := rfl
@[simp] theorem State.setEngine_startUp (s : State) (v : Engine) : (s.setEngine v).startUp = s.startUp := rfl
@[simp] theorem State.setEngine_mode (s : State) (v : Engine) : (s.setEngine v).mode = s.mode := rfl
@[simp] theorem State.setEngine_pins (s : State) (v : Engine) : (s.setEngine v).pins = s.pins := rfl
@[simp] theorem State.setEngine_pending (s : State) (v : Engine) : (s.setEngine v).pending = s.pending := rfl
@[simp] theorem State.setEngine_link (s : State) (v : Engine) (j : Master) : (s.setEngine v).link j = s.link j := rfl
@[simp] theorem State.setEngine_record (s : State) (v : Engine) (j : RecIdx) :
    (s.setEngine v).record j = s.record j := rfl
@[simp] theorem State.setEngine_tally (s : State) (v : Engine) (j : Master) :
    (s.setEngine v).tally j = s.tally j := rfl
@[simp] theorem State.setEngine_session (s : State) (v : Engine) (j : Master) :
    (s.setEngine v).session j = s.session j := rfl
@[simp] theorem State.setEngine_failureList (s : State) (v : Engine) (j : Master) :
    (s.setEngine v).failureList j = s.failureList j := rfl
@[simp] theorem State.setEngine_watch (s : State) (v : Engine) (j : WatchIdx) :
    (s.setEngine v).watch j = s.watch j := rfl
@[simp] theorem State.setEngine_notice (s : State) (v : Engine) (j : Master) :
    (s.setEngine v).notice j = s.notice j := rfl
@[simp] theorem State.setEngine_slot (s : State) (v : Engine) (j : SlotIdx) : (s.setEngine v).slot j = s.slot j := rfl
@[simp] theorem State.setEngine_now (s : State) (v : Engine) : (s.setEngine v).now = s.now := rfl
@[simp] theorem State.setEngine_after (s : State) (v : Engine) (n : Nat) : (s.setEngine v).after n = s.after n := rfl
@[simp] theorem State.setEngine_ticksTo (s : State) (v : Engine) (t : Tick) :
    (s.setEngine v).ticksTo t = s.ticksTo t := rfl
@[simp] theorem State.setEngine_reached (s : State) (v : Engine) (t : Tick) :
    (s.setEngine v).reached t = s.reached t := rfl
@[simp] theorem State.setEngine_engine (s : State) (v : Engine) : (s.setEngine v).engine = v := rfl

/-! ### setBand -/

@[simp] theorem State.setBand_links (s : State) (v : BandControl) : (s.setBand v).links = s.links := rfl
@[simp] theorem State.setBand_table (s : State) (v : BandControl) : (s.setBand v).table = s.table := rfl
@[simp] theorem State.setBand_tallies (s : State) (v : BandControl) : (s.setBand v).tallies = s.tallies := rfl
@[simp] theorem State.setBand_sessions (s : State) (v : BandControl) : (s.setBand v).sessions = s.sessions := rfl
@[simp] theorem State.setBand_queue (s : State) (v : BandControl) : (s.setBand v).queue = s.queue := rfl
@[simp] theorem State.setBand_failures (s : State) (v : BandControl) : (s.setBand v).failures = s.failures := rfl
@[simp] theorem State.setBand_clock (s : State) (v : BandControl) : (s.setBand v).clock = s.clock := rfl
@[simp] theorem State.setBand_check (s : State) (v : BandControl) : (s.setBand v).check = s.check := rfl
@[simp] theorem State.setBand_watches (s : State) (v : BandControl) : (s.setBand v).watches = s.watches := rfl
@[simp] theorem State.setBand_notices (s : State) (v : BandControl) : (s.setBand v).notices = s.notices := rfl
@[simp] theorem State.setBand_slots (s : State) (v : BandControl) : (s.setBand v).slots = s.slots := rfl
@[simp] theorem State.setBand_engine (s : State) (v : BandControl) : (s.setBand v).engine = s.engine := rfl
@[simp] theorem State.setBand_startUp (s : State) (v : BandControl) : (s.setBand v).startUp = s.startUp := rfl
@[simp] theorem State.setBand_mode (s : State) (v : BandControl) : (s.setBand v).mode = s.mode := rfl
@[simp] theorem State.setBand_pins (s : State) (v : BandControl) : (s.setBand v).pins = s.pins := rfl
@[simp] theorem State.setBand_pending (s : State) (v : BandControl) : (s.setBand v).pending = s.pending := rfl
@[simp] theorem State.setBand_link (s : State) (v : BandControl) (j : Master) : (s.setBand v).link j = s.link j := rfl
@[simp] theorem State.setBand_record (s : State) (v : BandControl) (j : RecIdx) :
    (s.setBand v).record j = s.record j := rfl
@[simp] theorem State.setBand_tally (s : State) (v : BandControl) (j : Master) :
    (s.setBand v).tally j = s.tally j := rfl
@[simp] theorem State.setBand_session (s : State) (v : BandControl) (j : Master) :
    (s.setBand v).session j = s.session j := rfl
@[simp] theorem State.setBand_failureList (s : State) (v : BandControl) (j : Master) :
    (s.setBand v).failureList j = s.failureList j := rfl
@[simp] theorem State.setBand_watch (s : State) (v : BandControl) (j : WatchIdx) :
    (s.setBand v).watch j = s.watch j := rfl
@[simp] theorem State.setBand_notice (s : State) (v : BandControl) (j : Master) :
    (s.setBand v).notice j = s.notice j := rfl
@[simp] theorem State.setBand_slot (s : State) (v : BandControl) (j : SlotIdx) :
    (s.setBand v).slot j = s.slot j := rfl
@[simp] theorem State.setBand_now (s : State) (v : BandControl) : (s.setBand v).now = s.now := rfl
@[simp] theorem State.setBand_after (s : State) (v : BandControl) (n : Nat) : (s.setBand v).after n = s.after n := rfl
@[simp] theorem State.setBand_ticksTo (s : State) (v : BandControl) (t : Tick) :
    (s.setBand v).ticksTo t = s.ticksTo t := rfl
@[simp] theorem State.setBand_reached (s : State) (v : BandControl) (t : Tick) :
    (s.setBand v).reached t = s.reached t := rfl
@[simp] theorem State.setBand_band (s : State) (v : BandControl) : (s.setBand v).band = v := rfl

/-! ### setStartUp -/

@[simp] theorem State.setStartUp_links (s : State) (v : StartUp) : (s.setStartUp v).links = s.links := rfl
@[simp] theorem State.setStartUp_table (s : State) (v : StartUp) : (s.setStartUp v).table = s.table := rfl
@[simp] theorem State.setStartUp_tallies (s : State) (v : StartUp) : (s.setStartUp v).tallies = s.tallies := rfl
@[simp] theorem State.setStartUp_sessions (s : State) (v : StartUp) : (s.setStartUp v).sessions = s.sessions := rfl
@[simp] theorem State.setStartUp_queue (s : State) (v : StartUp) : (s.setStartUp v).queue = s.queue := rfl
@[simp] theorem State.setStartUp_failures (s : State) (v : StartUp) : (s.setStartUp v).failures = s.failures := rfl
@[simp] theorem State.setStartUp_clock (s : State) (v : StartUp) : (s.setStartUp v).clock = s.clock := rfl
@[simp] theorem State.setStartUp_check (s : State) (v : StartUp) : (s.setStartUp v).check = s.check := rfl
@[simp] theorem State.setStartUp_watches (s : State) (v : StartUp) : (s.setStartUp v).watches = s.watches := rfl
@[simp] theorem State.setStartUp_notices (s : State) (v : StartUp) : (s.setStartUp v).notices = s.notices := rfl
@[simp] theorem State.setStartUp_slots (s : State) (v : StartUp) : (s.setStartUp v).slots = s.slots := rfl
@[simp] theorem State.setStartUp_engine (s : State) (v : StartUp) : (s.setStartUp v).engine = s.engine := rfl
@[simp] theorem State.setStartUp_band (s : State) (v : StartUp) : (s.setStartUp v).band = s.band := rfl
@[simp] theorem State.setStartUp_pins (s : State) (v : StartUp) : (s.setStartUp v).pins = s.pins := rfl
@[simp] theorem State.setStartUp_pending (s : State) (v : StartUp) : (s.setStartUp v).pending = s.pending := rfl
@[simp] theorem State.setStartUp_link (s : State) (v : StartUp) (j : Master) :
    (s.setStartUp v).link j = s.link j := rfl
@[simp] theorem State.setStartUp_record (s : State) (v : StartUp) (j : RecIdx) :
    (s.setStartUp v).record j = s.record j := rfl
@[simp] theorem State.setStartUp_tally (s : State) (v : StartUp) (j : Master) :
    (s.setStartUp v).tally j = s.tally j := rfl
@[simp] theorem State.setStartUp_session (s : State) (v : StartUp) (j : Master) :
    (s.setStartUp v).session j = s.session j := rfl
@[simp] theorem State.setStartUp_failureList (s : State) (v : StartUp) (j : Master) :
    (s.setStartUp v).failureList j = s.failureList j := rfl
@[simp] theorem State.setStartUp_watch (s : State) (v : StartUp) (j : WatchIdx) :
    (s.setStartUp v).watch j = s.watch j := rfl
@[simp] theorem State.setStartUp_notice (s : State) (v : StartUp) (j : Master) :
    (s.setStartUp v).notice j = s.notice j := rfl
@[simp] theorem State.setStartUp_slot (s : State) (v : StartUp) (j : SlotIdx) :
    (s.setStartUp v).slot j = s.slot j := rfl
@[simp] theorem State.setStartUp_now (s : State) (v : StartUp) : (s.setStartUp v).now = s.now := rfl
@[simp] theorem State.setStartUp_after (s : State) (v : StartUp) (n : Nat) :
    (s.setStartUp v).after n = s.after n := rfl
@[simp] theorem State.setStartUp_ticksTo (s : State) (v : StartUp) (t : Tick) :
    (s.setStartUp v).ticksTo t = s.ticksTo t := rfl
@[simp] theorem State.setStartUp_reached (s : State) (v : StartUp) (t : Tick) :
    (s.setStartUp v).reached t = s.reached t := rfl
@[simp] theorem State.setStartUp_startUp (s : State) (v : StartUp) : (s.setStartUp v).startUp = v := rfl

/-! ### setPins -/

@[simp] theorem State.setPins_links (s : State) (v : Pins) : (s.setPins v).links = s.links := rfl
@[simp] theorem State.setPins_table (s : State) (v : Pins) : (s.setPins v).table = s.table := rfl
@[simp] theorem State.setPins_tallies (s : State) (v : Pins) : (s.setPins v).tallies = s.tallies := rfl
@[simp] theorem State.setPins_sessions (s : State) (v : Pins) : (s.setPins v).sessions = s.sessions := rfl
@[simp] theorem State.setPins_queue (s : State) (v : Pins) : (s.setPins v).queue = s.queue := rfl
@[simp] theorem State.setPins_failures (s : State) (v : Pins) : (s.setPins v).failures = s.failures := rfl
@[simp] theorem State.setPins_clock (s : State) (v : Pins) : (s.setPins v).clock = s.clock := rfl
@[simp] theorem State.setPins_check (s : State) (v : Pins) : (s.setPins v).check = s.check := rfl
@[simp] theorem State.setPins_watches (s : State) (v : Pins) : (s.setPins v).watches = s.watches := rfl
@[simp] theorem State.setPins_notices (s : State) (v : Pins) : (s.setPins v).notices = s.notices := rfl
@[simp] theorem State.setPins_slots (s : State) (v : Pins) : (s.setPins v).slots = s.slots := rfl
@[simp] theorem State.setPins_engine (s : State) (v : Pins) : (s.setPins v).engine = s.engine := rfl
@[simp] theorem State.setPins_band (s : State) (v : Pins) : (s.setPins v).band = s.band := rfl
@[simp] theorem State.setPins_startUp (s : State) (v : Pins) : (s.setPins v).startUp = s.startUp := rfl
@[simp] theorem State.setPins_mode (s : State) (v : Pins) : (s.setPins v).mode = s.mode := rfl
@[simp] theorem State.setPins_pending (s : State) (v : Pins) : (s.setPins v).pending = s.pending := rfl
@[simp] theorem State.setPins_link (s : State) (v : Pins) (j : Master) : (s.setPins v).link j = s.link j := rfl
@[simp] theorem State.setPins_record (s : State) (v : Pins) (j : RecIdx) : (s.setPins v).record j = s.record j := rfl
@[simp] theorem State.setPins_tally (s : State) (v : Pins) (j : Master) : (s.setPins v).tally j = s.tally j := rfl
@[simp] theorem State.setPins_session (s : State) (v : Pins) (j : Master) :
    (s.setPins v).session j = s.session j := rfl
@[simp] theorem State.setPins_failureList (s : State) (v : Pins) (j : Master) :
    (s.setPins v).failureList j = s.failureList j := rfl
@[simp] theorem State.setPins_watch (s : State) (v : Pins) (j : WatchIdx) : (s.setPins v).watch j = s.watch j := rfl
@[simp] theorem State.setPins_notice (s : State) (v : Pins) (j : Master) : (s.setPins v).notice j = s.notice j := rfl
@[simp] theorem State.setPins_slot (s : State) (v : Pins) (j : SlotIdx) : (s.setPins v).slot j = s.slot j := rfl
@[simp] theorem State.setPins_now (s : State) (v : Pins) : (s.setPins v).now = s.now := rfl
@[simp] theorem State.setPins_after (s : State) (v : Pins) (n : Nat) : (s.setPins v).after n = s.after n := rfl
@[simp] theorem State.setPins_ticksTo (s : State) (v : Pins) (t : Tick) : (s.setPins v).ticksTo t = s.ticksTo t := rfl
@[simp] theorem State.setPins_reached (s : State) (v : Pins) (t : Tick) : (s.setPins v).reached t = s.reached t := rfl
@[simp] theorem State.setPins_pins (s : State) (v : Pins) : (s.setPins v).pins = v := rfl

end Sys2Proof.Machine
end

