-- ==== Sys2Proof/Laws/Frame.lean ====
section
/-! SUPPORT. The frame of every shared operation: the pieces of the state it does not touch, one lemma per piece, by
`simp`. A claim that something is left unchanged cites these and unfolds no operation. -/

namespace Sys2Proof.Machine

/-! ### Machine/Ops.lean -/

@[simp] theorem State.placeReply_table (s : State) (m : Master) (r : Reply) : (s.placeReply m r).table = s.table := by
  simp [State.placeReply]
@[simp] theorem State.placeReply_tallies (s : State) (m : Master) (r : Reply) :
    (s.placeReply m r).tallies = s.tallies := by
  simp [State.placeReply]
@[simp] theorem State.placeReply_sessions (s : State) (m : Master) (r : Reply) :
    (s.placeReply m r).sessions = s.sessions := by
  simp [State.placeReply]
@[simp] theorem State.placeReply_queue (s : State) (m : Master) (r : Reply) : (s.placeReply m r).queue = s.queue := by
  simp [State.placeReply]
@[simp] theorem State.placeReply_failures (s : State) (m : Master) (r : Reply) :
    (s.placeReply m r).failures = s.failures := by
  simp [State.placeReply]
@[simp] theorem State.placeReply_clock (s : State) (m : Master) (r : Reply) : (s.placeReply m r).clock = s.clock := by
  simp [State.placeReply]
@[simp] theorem State.placeReply_check (s : State) (m : Master) (r : Reply) : (s.placeReply m r).check = s.check := by
  simp [State.placeReply]
@[simp] theorem State.placeReply_watches (s : State) (m : Master) (r : Reply) :
    (s.placeReply m r).watches = s.watches := by
  simp [State.placeReply]
@[simp] theorem State.placeReply_notices (s : State) (m : Master) (r : Reply) :
    (s.placeReply m r).notices = s.notices := by
  simp [State.placeReply]
@[simp] theorem State.placeReply_slots (s : State) (m : Master) (r : Reply) : (s.placeReply m r).slots = s.slots := by
  simp [State.placeReply]
@[simp] theorem State.placeReply_engine (s : State) (m : Master) (r : Reply) :
    (s.placeReply m r).engine = s.engine := by
  simp [State.placeReply]
@[simp] theorem State.placeReply_band (s : State) (m : Master) (r : Reply) : (s.placeReply m r).band = s.band := by
  simp [State.placeReply]
@[simp] theorem State.placeReply_startUp (s : State) (m : Master) (r : Reply) :
    (s.placeReply m r).startUp = s.startUp := by
  simp [State.placeReply]
@[simp] theorem State.placeReply_pins (s : State) (m : Master) (r : Reply) : (s.placeReply m r).pins = s.pins := by
  simp [State.placeReply]
@[simp] theorem State.placeReply_pending (s : State) (m : Master) (r : Reply) :
    (s.placeReply m r).pending = s.pending := by
  simp [State.placeReply]
@[simp] theorem State.placeReply_record (s : State) (m : Master) (r : Reply) (j : RecIdx) :
    (s.placeReply m r).record j = s.record j := by
  simp [State.record]
@[simp] theorem State.placeReply_tally (s : State) (m : Master) (r : Reply) (j : Master) :
    (s.placeReply m r).tally j = s.tally j := by
  simp [State.tally]
@[simp] theorem State.placeReply_session (s : State) (m : Master) (r : Reply) (j : Master) :
    (s.placeReply m r).session j = s.session j := by
  simp [State.session]
@[simp] theorem State.placeReply_failureList (s : State) (m : Master) (r : Reply) (j : Master) :
    (s.placeReply m r).failureList j = s.failureList j := by
  simp [State.failureList]
@[simp] theorem State.placeReply_watch (s : State) (m : Master) (r : Reply) (j : WatchIdx) :
    (s.placeReply m r).watch j = s.watch j := by
  simp [State.watch]
@[simp] theorem State.placeReply_notice (s : State) (m : Master) (r : Reply) (j : Master) :
    (s.placeReply m r).notice j = s.notice j := by
  simp [State.notice]
@[simp] theorem State.placeReply_slot (s : State) (m : Master) (r : Reply) (j : SlotIdx) :
    (s.placeReply m r).slot j = s.slot j := by
  simp [State.slot]
@[simp] theorem State.placeReply_mode (s : State) (m : Master) (r : Reply) : (s.placeReply m r).mode = s.mode := by
  simp [State.mode]
@[simp] theorem State.placeReply_now (s : State) (m : Master) (r : Reply) : (s.placeReply m r).now = s.now := by
  simp [State.now]
@[simp] theorem State.placeReply_after (s : State) (m : Master) (r : Reply) (n : Nat) :
    (s.placeReply m r).after n = s.after n := by
  simp [State.after]
@[simp] theorem State.placeReply_ticksTo (s : State) (m : Master) (r : Reply) (d : Tick) :
    (s.placeReply m r).ticksTo d = s.ticksTo d := by
  simp [State.ticksTo]

@[simp] theorem State.renewSession_links (s : State) (m : Master) : (s.renewSession m).links = s.links := by
  unfold State.renewSession; split <;> simp
@[simp] theorem State.renewSession_table (s : State) (m : Master) : (s.renewSession m).table = s.table := by
  unfold State.renewSession; split <;> simp
@[simp] theorem State.renewSession_tallies (s : State) (m : Master) : (s.renewSession m).tallies = s.tallies := by
  unfold State.renewSession; split <;> simp
@[simp] theorem State.renewSession_queue (s : State) (m : Master) : (s.renewSession m).queue = s.queue := by
  unfold State.renewSession; split <;> simp
@[simp] theorem State.renewSession_failures (s : State) (m : Master) : (s.renewSession m).failures = s.failures := by
  unfold State.renewSession; split <;> simp
@[simp] theorem State.renewSession_clock (s : State) (m : Master) : (s.renewSession m).clock = s.clock := by
  unfold State.renewSession; split <;> simp
@[simp] theorem State.renewSession_check (s : State) (m : Master) : (s.renewSession m).check = s.check := by
  unfold State.renewSession; split <;> simp
@[simp] theorem State.renewSession_watches (s : State) (m : Master) : (s.renewSession m).watches = s.watches := by
  unfold State.renewSession; split <;> simp
@[simp] theorem State.renewSession_notices (s : State) (m : Master) : (s.renewSession m).notices = s.notices := by
  unfold State.renewSession; split <;> simp
@[simp] theorem State.renewSession_slots (s : State) (m : Master) : (s.renewSession m).slots = s.slots := by
  unfold State.renewSession; split <;> simp
@[simp] theorem State.renewSession_engine (s : State) (m : Master) : (s.renewSession m).engine = s.engine := by
  unfold State.renewSession; split <;> simp
@[simp] theorem State.renewSession_band (s : State) (m : Master) : (s.renewSession m).band = s.band := by
  unfold State.renewSession; split <;> simp
@[simp] theorem State.renewSession_startUp (s : State) (m : Master) : (s.renewSession m).startUp = s.startUp := by
  unfold State.renewSession; split <;> simp
@[simp] theorem State.renewSession_pins (s : State) (m : Master) : (s.renewSession m).pins = s.pins := by
  unfold State.renewSession; split <;> simp
@[simp] theorem State.renewSession_pending (s : State) (m : Master) : (s.renewSession m).pending = s.pending := by
  unfold State.renewSession; split <;> simp
@[simp] theorem State.renewSession_link (s : State) (m : Master) (j : Master) :
    (s.renewSession m).link j = s.link j := by
  simp [State.link]
@[simp] theorem State.renewSession_record (s : State) (m : Master) (j : RecIdx) :
    (s.renewSession m).record j = s.record j := by
  simp [State.record]
@[simp] theorem State.renewSession_tally (s : State) (m : Master) (j : Master) :
    (s.renewSession m).tally j = s.tally j := by
  simp [State.tally]
@[simp] theorem State.renewSession_failureList (s : State) (m : Master) (j : Master) :
    (s.renewSession m).failureList j = s.failureList j := by
  simp [State.failureList]
@[simp] theorem State.renewSession_watch (s : State) (m : Master) (j : WatchIdx) :
    (s.renewSession m).watch j = s.watch j := by
  simp [State.watch]
@[simp] theorem State.renewSession_notice (s : State) (m : Master) (j : Master) :
    (s.renewSession m).notice j = s.notice j := by
  simp [State.notice]
@[simp] theorem State.renewSession_slot (s : State) (m : Master) (j : SlotIdx) :
    (s.renewSession m).slot j = s.slot j := by
  simp [State.slot]
@[simp] theorem State.renewSession_mode (s : State) (m : Master) : (s.renewSession m).mode = s.mode := by
  simp [State.mode]
@[simp] theorem State.renewSession_now (s : State) (m : Master) : (s.renewSession m).now = s.now := by
  simp [State.now]
@[simp] theorem State.renewSession_after (s : State) (m : Master) (n : Nat) :
    (s.renewSession m).after n = s.after n := by
  simp [State.after]
@[simp] theorem State.renewSession_ticksTo (s : State) (m : Master) (d : Tick) :
    (s.renewSession m).ticksTo d = s.ticksTo d := by
  simp [State.ticksTo]

/-! ### Machine/Flags.lean -/

@[simp] theorem State.raise_links (s : State) (m : Master) (f : Flag) : (s.raise m f).links = s.links := by
  simp [State.raise]
@[simp] theorem State.raise_table (s : State) (m : Master) (f : Flag) : (s.raise m f).table = s.table := by
  simp [State.raise]
@[simp] theorem State.raise_tallies (s : State) (m : Master) (f : Flag) : (s.raise m f).tallies = s.tallies := by
  simp [State.raise]
@[simp] theorem State.raise_sessions (s : State) (m : Master) (f : Flag) : (s.raise m f).sessions = s.sessions := by
  simp [State.raise]
@[simp] theorem State.raise_queue (s : State) (m : Master) (f : Flag) : (s.raise m f).queue = s.queue := by
  simp [State.raise]
@[simp] theorem State.raise_failures (s : State) (m : Master) (f : Flag) : (s.raise m f).failures = s.failures := by
  simp [State.raise]
@[simp] theorem State.raise_clock (s : State) (m : Master) (f : Flag) : (s.raise m f).clock = s.clock := by
  simp [State.raise]
@[simp] theorem State.raise_check (s : State) (m : Master) (f : Flag) : (s.raise m f).check = s.check := by
  simp [State.raise]
@[simp] theorem State.raise_watches (s : State) (m : Master) (f : Flag) : (s.raise m f).watches = s.watches := by
  simp [State.raise]
@[simp] theorem State.raise_slots (s : State) (m : Master) (f : Flag) : (s.raise m f).slots = s.slots := by
  simp [State.raise]
@[simp] theorem State.raise_engine (s : State) (m : Master) (f : Flag) : (s.raise m f).engine = s.engine := by
  simp [State.raise]
@[simp] theorem State.raise_band (s : State) (m : Master) (f : Flag) : (s.raise m f).band = s.band := by
  simp [State.raise]
@[simp] theorem State.raise_startUp (s : State) (m : Master) (f : Flag) : (s.raise m f).startUp = s.startUp := by
  simp [State.raise]
@[simp] theorem State.raise_pins (s : State) (m : Master) (f : Flag) : (s.raise m f).pins = s.pins := by
  simp [State.raise]
@[simp] theorem State.raise_pending (s : State) (m : Master) (f : Flag) : (s.raise m f).pending = s.pending := by
  simp [State.raise]
@[simp] theorem State.raise_link (s : State) (m : Master) (f : Flag) (j : Master) :
    (s.raise m f).link j = s.link j := by
  simp [State.link]
@[simp] theorem State.raise_record (s : State) (m : Master) (f : Flag) (j : RecIdx) :
    (s.raise m f).record j = s.record j := by
  simp [State.record]
@[simp] theorem State.raise_tally (s : State) (m : Master) (f : Flag) (j : Master) :
    (s.raise m f).tally j = s.tally j := by
  simp [State.tally]
@[simp] theorem State.raise_session (s : State) (m : Master) (f : Flag) (j : Master) :
    (s.raise m f).session j = s.session j := by
  simp [State.session]
@[simp] theorem State.raise_failureList (s : State) (m : Master) (f : Flag) (j : Master) :
    (s.raise m f).failureList j = s.failureList j := by
  simp [State.failureList]
@[simp] theorem State.raise_watch (s : State) (m : Master) (f : Flag) (j : WatchIdx) :
    (s.raise m f).watch j = s.watch j := by
  simp [State.watch]
@[simp] theorem State.raise_slot (s : State) (m : Master) (f : Flag) (j : SlotIdx) :
    (s.raise m f).slot j = s.slot j := by
  simp [State.slot]
@[simp] theorem State.raise_mode (s : State) (m : Master) (f : Flag) : (s.raise m f).mode = s.mode := by
  simp [State.mode]
@[simp] theorem State.raise_now (s : State) (m : Master) (f : Flag) : (s.raise m f).now = s.now := by
  simp [State.now]
@[simp] theorem State.raise_after (s : State) (m : Master) (f : Flag) (n : Nat) :
    (s.raise m f).after n = s.after n := by
  simp [State.after]
@[simp] theorem State.raise_ticksTo (s : State) (m : Master) (f : Flag) (d : Tick) :
    (s.raise m f).ticksTo d = s.ticksTo d := by
  simp [State.ticksTo]

@[simp] theorem State.capture_links (s : State) (m : Master) (c : Capture) : (s.capture m c).links = s.links := by
  unfold State.capture; split <;> simp
@[simp] theorem State.capture_table (s : State) (m : Master) (c : Capture) : (s.capture m c).table = s.table := by
  unfold State.capture; split <;> simp
@[simp] theorem State.capture_tallies (s : State) (m : Master) (c : Capture) :
    (s.capture m c).tallies = s.tallies := by
  unfold State.capture; split <;> simp
@[simp] theorem State.capture_sessions (s : State) (m : Master) (c : Capture) :
    (s.capture m c).sessions = s.sessions := by
  unfold State.capture; split <;> simp
@[simp] theorem State.capture_queue (s : State) (m : Master) (c : Capture) : (s.capture m c).queue = s.queue := by
  unfold State.capture; split <;> simp
@[simp] theorem State.capture_failures (s : State) (m : Master) (c : Capture) :
    (s.capture m c).failures = s.failures := by
  unfold State.capture; split <;> simp
@[simp] theorem State.capture_clock (s : State) (m : Master) (c : Capture) : (s.capture m c).clock = s.clock := by
  unfold State.capture; split <;> simp
@[simp] theorem State.capture_check (s : State) (m : Master) (c : Capture) : (s.capture m c).check = s.check := by
  unfold State.capture; split <;> simp
@[simp] theorem State.capture_watches (s : State) (m : Master) (c : Capture) :
    (s.capture m c).watches = s.watches := by
  unfold State.capture; split <;> simp
@[simp] theorem State.capture_slots (s : State) (m : Master) (c : Capture) : (s.capture m c).slots = s.slots := by
  unfold State.capture; split <;> simp
@[simp] theorem State.capture_engine (s : State) (m : Master) (c : Capture) : (s.capture m c).engine = s.engine := by
  unfold State.capture; split <;> simp
@[simp] theorem State.capture_band (s : State) (m : Master) (c : Capture) : (s.capture m c).band = s.band := by
  unfold State.capture; split <;> simp
@[simp] theorem State.capture_startUp (s : State) (m : Master) (c : Capture) :
    (s.capture m c).startUp = s.startUp := by
  unfold State.capture; split <;> simp
@[simp] theorem State.capture_pins (s : State) (m : Master) (c : Capture) : (s.capture m c).pins = s.pins := by
  unfold State.capture; split <;> simp
@[simp] theorem State.capture_pending (s : State) (m : Master) (c : Capture) :
    (s.capture m c).pending = s.pending := by
  unfold State.capture; split <;> simp
@[simp] theorem State.capture_link (s : State) (m : Master) (c : Capture) (j : Master) :
    (s.capture m c).link j = s.link j := by
  simp [State.link]
@[simp] theorem State.capture_record (s : State) (m : Master) (c : Capture) (j : RecIdx) :
    (s.capture m c).record j = s.record j := by
  simp [State.record]
@[simp] theorem State.capture_tally (s : State) (m : Master) (c : Capture) (j : Master) :
    (s.capture m c).tally j = s.tally j := by
  simp [State.tally]
@[simp] theorem State.capture_session (s : State) (m : Master) (c : Capture) (j : Master) :
    (s.capture m c).session j = s.session j := by
  simp [State.session]
@[simp] theorem State.capture_failureList (s : State) (m : Master) (c : Capture) (j : Master) :
    (s.capture m c).failureList j = s.failureList j := by
  simp [State.failureList]
@[simp] theorem State.capture_watch (s : State) (m : Master) (c : Capture) (j : WatchIdx) :
    (s.capture m c).watch j = s.watch j := by
  simp [State.watch]
@[simp] theorem State.capture_slot (s : State) (m : Master) (c : Capture) (j : SlotIdx) :
    (s.capture m c).slot j = s.slot j := by
  simp [State.slot]
@[simp] theorem State.capture_mode (s : State) (m : Master) (c : Capture) : (s.capture m c).mode = s.mode := by
  simp [State.mode]
@[simp] theorem State.capture_now (s : State) (m : Master) (c : Capture) : (s.capture m c).now = s.now := by
  simp [State.now]
@[simp] theorem State.capture_after (s : State) (m : Master) (c : Capture) (n : Nat) :
    (s.capture m c).after n = s.after n := by
  simp [State.after]
@[simp] theorem State.capture_ticksTo (s : State) (m : Master) (c : Capture) (d : Tick) :
    (s.capture m c).ticksTo d = s.ticksTo d := by
  simp [State.ticksTo]

/-! ### Machine/Slots.lean -/

@[simp] theorem State.changeSlot_links (s : State) (k : SlotIdx) (f : Slot → Option SlotWork → Slot) :
    (s.changeSlot k f).links = s.links := by
  simp [State.changeSlot]
@[simp] theorem State.changeSlot_table (s : State) (k : SlotIdx) (f : Slot → Option SlotWork → Slot) :
    (s.changeSlot k f).table = s.table := by
  simp [State.changeSlot]
@[simp] theorem State.changeSlot_tallies (s : State) (k : SlotIdx) (f : Slot → Option SlotWork → Slot) :
    (s.changeSlot k f).tallies = s.tallies := by
  simp [State.changeSlot]
@[simp] theorem State.changeSlot_sessions (s : State) (k : SlotIdx) (f : Slot → Option SlotWork → Slot) :
    (s.changeSlot k f).sessions = s.sessions := by
  simp [State.changeSlot]
@[simp] theorem State.changeSlot_queue (s : State) (k : SlotIdx) (f : Slot → Option SlotWork → Slot) :
    (s.changeSlot k f).queue = s.queue := by
  simp [State.changeSlot]
@[simp] theorem State.changeSlot_failures (s : State) (k : SlotIdx) (f : Slot → Option SlotWork → Slot) :
    (s.changeSlot k f).failures = s.failures := by
  simp [State.changeSlot]
@[simp] theorem State.changeSlot_clock (s : State) (k : SlotIdx) (f : Slot → Option SlotWork → Slot) :
    (s.changeSlot k f).clock = s.clock := by
  simp [State.changeSlot]
@[simp] theorem State.changeSlot_check (s : State) (k : SlotIdx) (f : Slot → Option SlotWork → Slot) :
    (s.changeSlot k f).check = s.check := by
  simp [State.changeSlot]
@[simp] theorem State.changeSlot_watches (s : State) (k : SlotIdx) (f : Slot → Option SlotWork → Slot) :
    (s.changeSlot k f).watches = s.watches := by
  simp [State.changeSlot]
@[simp] theorem State.changeSlot_notices (s : State) (k : SlotIdx) (f : Slot → Option SlotWork → Slot) :
    (s.changeSlot k f).notices = s.notices := by
  simp [State.changeSlot]
@[simp] theorem State.changeSlot_engine (s : State) (k : SlotIdx) (f : Slot → Option SlotWork → Slot) :
    (s.changeSlot k f).engine = s.engine := by
  simp [State.changeSlot]
@[simp] theorem State.changeSlot_band (s : State) (k : SlotIdx) (f : Slot → Option SlotWork → Slot) :
    (s.changeSlot k f).band = s.band := by
  simp [State.changeSlot]
@[simp] theorem State.changeSlot_startUp (s : State) (k : SlotIdx) (f : Slot → Option SlotWork → Slot) :
    (s.changeSlot k f).startUp = s.startUp := by
  simp [State.changeSlot]
@[simp] theorem State.changeSlot_pins (s : State) (k : SlotIdx) (f : Slot → Option SlotWork → Slot) :
    (s.changeSlot k f).pins = s.pins := by
  simp [State.changeSlot]
@[simp] theorem State.changeSlot_pending (s : State) (k : SlotIdx) (f : Slot → Option SlotWork → Slot) :
    (s.changeSlot k f).pending = s.pending := by
  simp [State.changeSlot]
@[simp] theorem State.changeSlot_link (s : State) (k : SlotIdx) (f : Slot → Option SlotWork → Slot) (j : Master) :
    (s.changeSlot k f).link j = s.link j := by
  simp [State.link]
@[simp] theorem State.changeSlot_record (s : State) (k : SlotIdx) (f : Slot → Option SlotWork → Slot) (j : RecIdx) :
    (s.changeSlot k f).record j = s.record j := by
  simp [State.record]
@[simp] theorem State.changeSlot_tally (s : State) (k : SlotIdx) (f : Slot → Option SlotWork → Slot) (j : Master) :
    (s.changeSlot k f).tally j = s.tally j := by
  simp [State.tally]
@[simp] theorem State.changeSlot_session (s : State) (k : SlotIdx) (f : Slot → Option SlotWork → Slot) (j : Master) :
    (s.changeSlot k f).session j = s.session j := by
  simp [State.session]
@[simp] theorem State.changeSlot_failureList (s : State) (k : SlotIdx) (f : Slot → Option SlotWork → Slot) (j : Master) :
    (s.changeSlot k f).failureList j = s.failureList j :=
  by
  simp [State.failureList]
@[simp] theorem State.changeSlot_watch (s : State) (k : SlotIdx) (f : Slot → Option SlotWork → Slot) (j : WatchIdx) :
    (s.changeSlot k f).watch j = s.watch j := by
  simp [State.watch]
@[simp] theorem State.changeSlot_notice (s : State) (k : SlotIdx) (f : Slot → Option SlotWork → Slot) (j : Master) :
    (s.changeSlot k f).notice j = s.notice j := by
  simp [State.notice]
@[simp] theorem State.changeSlot_mode (s : State) (k : SlotIdx) (f : Slot → Option SlotWork → Slot) :
    (s.changeSlot k f).mode = s.mode := by
  simp [State.mode]
@[simp] theorem State.changeSlot_now (s : State) (k : SlotIdx) (f : Slot → Option SlotWork → Slot) :
    (s.changeSlot k f).now = s.now := by
  simp [State.now]
@[simp] theorem State.changeSlot_after (s : State) (k : SlotIdx) (f : Slot → Option SlotWork → Slot) (n : Nat) :
    (s.changeSlot k f).after n = s.after n := by
  simp [State.after]
@[simp] theorem State.changeSlot_ticksTo (s : State) (k : SlotIdx) (f : Slot → Option SlotWork → Slot) (d : Tick) :
    (s.changeSlot k f).ticksTo d = s.ticksTo d := by
  simp [State.ticksTo]

@[simp] theorem State.beginBandWrite_links (s : State) (v : Nat) : (s.beginBandWrite v).links = s.links := by
  simp [State.beginBandWrite]
@[simp] theorem State.beginBandWrite_table (s : State) (v : Nat) : (s.beginBandWrite v).table = s.table := by
  simp [State.beginBandWrite]
@[simp] theorem State.beginBandWrite_tallies (s : State) (v : Nat) : (s.beginBandWrite v).tallies = s.tallies := by
  simp [State.beginBandWrite]
@[simp] theorem State.beginBandWrite_sessions (s : State) (v : Nat) : (s.beginBandWrite v).sessions = s.sessions := by
  simp [State.beginBandWrite]
@[simp] theorem State.beginBandWrite_queue (s : State) (v : Nat) : (s.beginBandWrite v).queue = s.queue := by
  simp [State.beginBandWrite]
@[simp] theorem State.beginBandWrite_failures (s : State) (v : Nat) : (s.beginBandWrite v).failures = s.failures := by
  simp [State.beginBandWrite]
@[simp] theorem State.beginBandWrite_clock (s : State) (v : Nat) : (s.beginBandWrite v).clock = s.clock := by
  simp [State.beginBandWrite]
@[simp] theorem State.beginBandWrite_check (s : State) (v : Nat) : (s.beginBandWrite v).check = s.check := by
  simp [State.beginBandWrite]
@[simp] theorem State.beginBandWrite_watches (s : State) (v : Nat) : (s.beginBandWrite v).watches = s.watches := by
  simp [State.beginBandWrite]
@[simp] theorem State.beginBandWrite_notices (s : State) (v : Nat) : (s.beginBandWrite v).notices = s.notices := by
  simp [State.beginBandWrite]
@[simp] theorem State.beginBandWrite_slots (s : State) (v : Nat) : (s.beginBandWrite v).slots = s.slots := by
  simp [State.beginBandWrite]
@[simp] theorem State.beginBandWrite_startUp (s : State) (v : Nat) : (s.beginBandWrite v).startUp = s.startUp := by
  simp [State.beginBandWrite]
@[simp] theorem State.beginBandWrite_pins (s : State) (v : Nat) : (s.beginBandWrite v).pins = s.pins := by
  simp [State.beginBandWrite]
@[simp] theorem State.beginBandWrite_pending (s : State) (v : Nat) : (s.beginBandWrite v).pending = s.pending := by
  simp [State.beginBandWrite]
@[simp] theorem State.beginBandWrite_link (s : State) (v : Nat) (j : Master) :
    (s.beginBandWrite v).link j = s.link j := by
  simp [State.link]
@[simp] theorem State.beginBandWrite_record (s : State) (v : Nat) (j : RecIdx) :
    (s.beginBandWrite v).record j = s.record j := by
  simp [State.record]
@[simp] theorem State.beginBandWrite_tally (s : State) (v : Nat) (j : Master) :
    (s.beginBandWrite v).tally j = s.tally j := by
  simp [State.tally]
@[simp] theorem State.beginBandWrite_session (s : State) (v : Nat) (j : Master) :
    (s.beginBandWrite v).session j = s.session j := by
  simp [State.session]
@[simp] theorem State.beginBandWrite_failureList (s : State) (v : Nat) (j : Master) :
    (s.beginBandWrite v).failureList j = s.failureList j := by
  simp [State.failureList]
@[simp] theorem State.beginBandWrite_watch (s : State) (v : Nat) (j : WatchIdx) :
    (s.beginBandWrite v).watch j = s.watch j := by
  simp [State.watch]
@[simp] theorem State.beginBandWrite_notice (s : State) (v : Nat) (j : Master) :
    (s.beginBandWrite v).notice j = s.notice j := by
  simp [State.notice]
@[simp] theorem State.beginBandWrite_slot (s : State) (v : Nat) (j : SlotIdx) :
    (s.beginBandWrite v).slot j = s.slot j := by
  simp [State.slot]
@[simp] theorem State.beginBandWrite_mode (s : State) (v : Nat) : (s.beginBandWrite v).mode = s.mode := by
  simp [State.mode]
@[simp] theorem State.beginBandWrite_now (s : State) (v : Nat) : (s.beginBandWrite v).now = s.now := by
  simp [State.now]
@[simp] theorem State.beginBandWrite_after (s : State) (v : Nat) (n : Nat) :
    (s.beginBandWrite v).after n = s.after n := by
  simp [State.after]
@[simp] theorem State.beginBandWrite_ticksTo (s : State) (v : Nat) (d : Tick) :
    (s.beginBandWrite v).ticksTo d = s.ticksTo d := by
  simp [State.ticksTo]

@[simp] theorem State.beginSlotOperation_links (s : State) (k : SlotIdx) (e : Engine) :
    (s.beginSlotOperation k e).links = s.links := by
  simp [State.beginSlotOperation]
@[simp] theorem State.beginSlotOperation_table (s : State) (k : SlotIdx) (e : Engine) :
    (s.beginSlotOperation k e).table = s.table := by
  simp [State.beginSlotOperation]
@[simp] theorem State.beginSlotOperation_tallies (s : State) (k : SlotIdx) (e : Engine) :
    (s.beginSlotOperation k e).tallies = s.tallies := by
  simp [State.beginSlotOperation]
@[simp] theorem State.beginSlotOperation_sessions (s : State) (k : SlotIdx) (e : Engine) :
    (s.beginSlotOperation k e).sessions = s.sessions := by
  simp [State.beginSlotOperation]
@[simp] theorem State.beginSlotOperation_queue (s : State) (k : SlotIdx) (e : Engine) :
    (s.beginSlotOperation k e).queue = s.queue := by
  simp [State.beginSlotOperation]
@[simp] theorem State.beginSlotOperation_failures (s : State) (k : SlotIdx) (e : Engine) :
    (s.beginSlotOperation k e).failures = s.failures := by
  simp [State.beginSlotOperation]
@[simp] theorem State.beginSlotOperation_clock (s : State) (k : SlotIdx) (e : Engine) :
    (s.beginSlotOperation k e).clock = s.clock := by
  simp [State.beginSlotOperation]
@[simp] theorem State.beginSlotOperation_check (s : State) (k : SlotIdx) (e : Engine) :
    (s.beginSlotOperation k e).check = s.check := by
  simp [State.beginSlotOperation]
@[simp] theorem State.beginSlotOperation_watches (s : State) (k : SlotIdx) (e : Engine) :
    (s.beginSlotOperation k e).watches = s.watches := by
  simp [State.beginSlotOperation]
@[simp] theorem State.beginSlotOperation_notices (s : State) (k : SlotIdx) (e : Engine) :
    (s.beginSlotOperation k e).notices = s.notices := by
  simp [State.beginSlotOperation]
@[simp] theorem State.beginSlotOperation_band (s : State) (k : SlotIdx) (e : Engine) :
    (s.beginSlotOperation k e).band = s.band := by
  simp [State.beginSlotOperation]
@[simp] theorem State.beginSlotOperation_startUp (s : State) (k : SlotIdx) (e : Engine) :
    (s.beginSlotOperation k e).startUp = s.startUp := by
  simp [State.beginSlotOperation]
@[simp] theorem State.beginSlotOperation_pins (s : State) (k : SlotIdx) (e : Engine) :
    (s.beginSlotOperation k e).pins = s.pins := by
  simp [State.beginSlotOperation]
@[simp] theorem State.beginSlotOperation_pending (s : State) (k : SlotIdx) (e : Engine) :
    (s.beginSlotOperation k e).pending = s.pending := by
  simp [State.beginSlotOperation]
@[simp] theorem State.beginSlotOperation_link (s : State) (k : SlotIdx) (e : Engine) (j : Master) :
    (s.beginSlotOperation k e).link j = s.link j := by
  simp [State.link]
@[simp] theorem State.beginSlotOperation_record (s : State) (k : SlotIdx) (e : Engine) (j : RecIdx) :
    (s.beginSlotOperation k e).record j = s.record j := by
  simp [State.record]
@[simp] theorem State.beginSlotOperation_tally (s : State) (k : SlotIdx) (e : Engine) (j : Master) :
    (s.beginSlotOperation k e).tally j = s.tally j := by
  simp [State.tally]
@[simp] theorem State.beginSlotOperation_session (s : State) (k : SlotIdx) (e : Engine) (j : Master) :
    (s.beginSlotOperation k e).session j = s.session j := by
  simp [State.session]
@[simp] theorem State.beginSlotOperation_failureList (s : State) (k : SlotIdx) (e : Engine) (j : Master) :
    (s.beginSlotOperation k e).failureList j = s.failureList j := by
  simp [State.failureList]
@[simp] theorem State.beginSlotOperation_watch (s : State) (k : SlotIdx) (e : Engine) (j : WatchIdx) :
    (s.beginSlotOperation k e).watch j = s.watch j := by
  simp [State.watch]
@[simp] theorem State.beginSlotOperation_notice (s : State) (k : SlotIdx) (e : Engine) (j : Master) :
    (s.beginSlotOperation k e).notice j = s.notice j := by
  simp [State.notice]
@[simp] theorem State.beginSlotOperation_mode (s : State) (k : SlotIdx) (e : Engine) :
    (s.beginSlotOperation k e).mode = s.mode := by
  simp [State.mode]
@[simp] theorem State.beginSlotOperation_now (s : State) (k : SlotIdx) (e : Engine) :
    (s.beginSlotOperation k e).now = s.now := by
  simp [State.now]
@[simp] theorem State.beginSlotOperation_after (s : State) (k : SlotIdx) (e : Engine) (n : Nat) :
    (s.beginSlotOperation k e).after n = s.after n := by
  simp [State.after]
@[simp] theorem State.beginSlotOperation_ticksTo (s : State) (k : SlotIdx) (e : Engine) (d : Tick) :
    (s.beginSlotOperation k e).ticksTo d = s.ticksTo d := by
  simp [State.ticksTo]

@[simp] theorem State.chooseTarget_links (s : State) : (s.chooseTarget).links = s.links := by
  unfold State.chooseTarget; repeat' split
  all_goals simp
@[simp] theorem State.chooseTarget_table (s : State) : (s.chooseTarget).table = s.table := by
  unfold State.chooseTarget; repeat' split
  all_goals simp
@[simp] theorem State.chooseTarget_tallies (s : State) : (s.chooseTarget).tallies = s.tallies := by
  unfold State.chooseTarget; repeat' split
  all_goals simp
@[simp] theorem State.chooseTarget_sessions (s : State) : (s.chooseTarget).sessions = s.sessions := by
  unfold State.chooseTarget; repeat' split
  all_goals simp
@[simp] theorem State.chooseTarget_queue (s : State) : (s.chooseTarget).queue = s.queue := by
  unfold State.chooseTarget; repeat' split
  all_goals simp
@[simp] theorem State.chooseTarget_failures (s : State) : (s.chooseTarget).failures = s.failures := by
  unfold State.chooseTarget; repeat' split
  all_goals simp
@[simp] theorem State.chooseTarget_clock (s : State) : (s.chooseTarget).clock = s.clock := by
  unfold State.chooseTarget; repeat' split
  all_goals simp
@[simp] theorem State.chooseTarget_check (s : State) : (s.chooseTarget).check = s.check := by
  unfold State.chooseTarget; repeat' split
  all_goals simp
@[simp] theorem State.chooseTarget_watches (s : State) : (s.chooseTarget).watches = s.watches := by
  unfold State.chooseTarget; repeat' split
  all_goals simp
@[simp] theorem State.chooseTarget_notices (s : State) : (s.chooseTarget).notices = s.notices := by
  unfold State.chooseTarget; repeat' split
  all_goals simp
@[simp] theorem State.chooseTarget_startUp (s : State) : (s.chooseTarget).startUp = s.startUp := by
  unfold State.chooseTarget; repeat' split
  all_goals simp
@[simp] theorem State.chooseTarget_pins (s : State) : (s.chooseTarget).pins = s.pins := by
  unfold State.chooseTarget; repeat' split
  all_goals simp
@[simp] theorem State.chooseTarget_pending (s : State) : (s.chooseTarget).pending = s.pending := by
  unfold State.chooseTarget; repeat' split
  all_goals simp
@[simp] theorem State.chooseTarget_link (s : State) (j : Master) : (s.chooseTarget).link j = s.link j := by
  simp [State.link]
@[simp] theorem State.chooseTarget_record (s : State) (j : RecIdx) : (s.chooseTarget).record j = s.record j := by
  simp [State.record]
@[simp] theorem State.chooseTarget_tally (s : State) (j : Master) : (s.chooseTarget).tally j = s.tally j := by
  simp [State.tally]
@[simp] theorem State.chooseTarget_session (s : State) (j : Master) : (s.chooseTarget).session j = s.session j := by
  simp [State.session]
@[simp] theorem State.chooseTarget_failureList (s : State) (j : Master) :
    (s.chooseTarget).failureList j = s.failureList j := by
  simp [State.failureList]
@[simp] theorem State.chooseTarget_watch (s : State) (j : WatchIdx) : (s.chooseTarget).watch j = s.watch j := by
  simp [State.watch]
@[simp] theorem State.chooseTarget_notice (s : State) (j : Master) : (s.chooseTarget).notice j = s.notice j := by
  simp [State.notice]
@[simp] theorem State.chooseTarget_mode (s : State) : (s.chooseTarget).mode = s.mode := by
  simp [State.mode]
@[simp] theorem State.chooseTarget_now (s : State) : (s.chooseTarget).now = s.now := by
  simp [State.now]
@[simp] theorem State.chooseTarget_after (s : State) (n : Nat) : (s.chooseTarget).after n = s.after n := by
  simp [State.after]
@[simp] theorem State.chooseTarget_ticksTo (s : State) (d : Tick) : (s.chooseTarget).ticksTo d = s.ticksTo d := by
  simp [State.ticksTo]

@[simp] theorem State.kickEngine_links (s : State) : (s.kickEngine).links = s.links := by
  unfold State.kickEngine; split <;> simp
@[simp] theorem State.kickEngine_table (s : State) : (s.kickEngine).table = s.table := by
  unfold State.kickEngine; split <;> simp
@[simp] theorem State.kickEngine_tallies (s : State) : (s.kickEngine).tallies = s.tallies := by
  unfold State.kickEngine; split <;> simp
@[simp] theorem State.kickEngine_sessions (s : State) : (s.kickEngine).sessions = s.sessions := by
  unfold State.kickEngine; split <;> simp
@[simp] theorem State.kickEngine_queue (s : State) : (s.kickEngine).queue = s.queue := by
  unfold State.kickEngine; split <;> simp
@[simp] theorem State.kickEngine_failures (s : State) : (s.kickEngine).failures = s.failures := by
  unfold State.kickEngine; split <;> simp
@[simp] theorem State.kickEngine_clock (s : State) : (s.kickEngine).clock = s.clock := by
  unfold State.kickEngine; split <;> simp
@[simp] theorem State.kickEngine_check (s : State) : (s.kickEngine).check = s.check := by
  unfold State.kickEngine; split <;> simp
@[simp] theorem State.kickEngine_watches (s : State) : (s.kickEngine).watches = s.watches := by
  unfold State.kickEngine; split <;> simp
@[simp] theorem State.kickEngine_notices (s : State) : (s.kickEngine).notices = s.notices := by
  unfold State.kickEngine; split <;> simp
@[simp] theorem State.kickEngine_startUp (s : State) : (s.kickEngine).startUp = s.startUp := by
  unfold State.kickEngine; split <;> simp
@[simp] theorem State.kickEngine_pins (s : State) : (s.kickEngine).pins = s.pins := by
  unfold State.kickEngine; split <;> simp
@[simp] theorem State.kickEngine_pending (s : State) : (s.kickEngine).pending = s.pending := by
  unfold State.kickEngine; split <;> simp
@[simp] theorem State.kickEngine_link (s : State) (j : Master) : (s.kickEngine).link j = s.link j := by
  simp [State.link]
@[simp] theorem State.kickEngine_record (s : State) (j : RecIdx) : (s.kickEngine).record j = s.record j := by
  simp [State.record]
@[simp] theorem State.kickEngine_tally (s : State) (j : Master) : (s.kickEngine).tally j = s.tally j := by
  simp [State.tally]
@[simp] theorem State.kickEngine_session (s : State) (j : Master) : (s.kickEngine).session j = s.session j := by
  simp [State.session]
@[simp] theorem State.kickEngine_failureList (s : State) (j : Master) :
    (s.kickEngine).failureList j = s.failureList j := by
  simp [State.failureList]
@[simp] theorem State.kickEngine_watch (s : State) (j : WatchIdx) : (s.kickEngine).watch j = s.watch j := by
  simp [State.watch]
@[simp] theorem State.kickEngine_notice (s : State) (j : Master) : (s.kickEngine).notice j = s.notice j := by
  simp [State.notice]
@[simp] theorem State.kickEngine_mode (s : State) : (s.kickEngine).mode = s.mode := by
  simp [State.mode]
@[simp] theorem State.kickEngine_now (s : State) : (s.kickEngine).now = s.now := by
  simp [State.now]
@[simp] theorem State.kickEngine_after (s : State) (n : Nat) : (s.kickEngine).after n = s.after n := by
  simp [State.after]
@[simp] theorem State.kickEngine_ticksTo (s : State) (d : Tick) : (s.kickEngine).ticksTo d = s.ticksTo d := by
  simp [State.ticksTo]

@[simp] theorem State.endOperation_links (s : State) : (s.endOperation).links = s.links := by
  simp [State.endOperation]
@[simp] theorem State.endOperation_table (s : State) : (s.endOperation).table = s.table := by
  simp [State.endOperation]
@[simp] theorem State.endOperation_tallies (s : State) : (s.endOperation).tallies = s.tallies := by
  simp [State.endOperation]
@[simp] theorem State.endOperation_sessions (s : State) : (s.endOperation).sessions = s.sessions := by
  simp [State.endOperation]
@[simp] theorem State.endOperation_queue (s : State) : (s.endOperation).queue = s.queue := by
  simp [State.endOperation]
@[simp] theorem State.endOperation_failures (s : State) : (s.endOperation).failures = s.failures := by
  simp [State.endOperation]
@[simp] theorem State.endOperation_clock (s : State) : (s.endOperation).clock = s.clock := by
  simp [State.endOperation]
@[simp] theorem State.endOperation_check (s : State) : (s.endOperation).check = s.check := by
  simp [State.endOperation]
@[simp] theorem State.endOperation_watches (s : State) : (s.endOperation).watches = s.watches := by
  simp [State.endOperation]
@[simp] theorem State.endOperation_notices (s : State) : (s.endOperation).notices = s.notices := by
  simp [State.endOperation]
@[simp] theorem State.endOperation_startUp (s : State) : (s.endOperation).startUp = s.startUp := by
  simp [State.endOperation]
@[simp] theorem State.endOperation_pins (s : State) : (s.endOperation).pins = s.pins := by
  simp [State.endOperation]
@[simp] theorem State.endOperation_pending (s : State) : (s.endOperation).pending = s.pending := by
  simp [State.endOperation]
@[simp] theorem State.endOperation_link (s : State) (j : Master) : (s.endOperation).link j = s.link j := by
  simp [State.link]
@[simp] theorem State.endOperation_record (s : State) (j : RecIdx) : (s.endOperation).record j = s.record j := by
  simp [State.record]
@[simp] theorem State.endOperation_tally (s : State) (j : Master) : (s.endOperation).tally j = s.tally j := by
  simp [State.tally]
@[simp] theorem State.endOperation_session (s : State) (j : Master) : (s.endOperation).session j = s.session j := by
  simp [State.session]
@[simp] theorem State.endOperation_failureList (s : State) (j : Master) :
    (s.endOperation).failureList j = s.failureList j := by
  simp [State.failureList]
@[simp] theorem State.endOperation_watch (s : State) (j : WatchIdx) : (s.endOperation).watch j = s.watch j := by
  simp [State.watch]
@[simp] theorem State.endOperation_notice (s : State) (j : Master) : (s.endOperation).notice j = s.notice j := by
  simp [State.notice]
@[simp] theorem State.endOperation_mode (s : State) : (s.endOperation).mode = s.mode := by
  simp [State.mode]
@[simp] theorem State.endOperation_now (s : State) : (s.endOperation).now = s.now := by
  simp [State.now]
@[simp] theorem State.endOperation_after (s : State) (n : Nat) : (s.endOperation).after n = s.after n := by
  simp [State.after]
@[simp] theorem State.endOperation_ticksTo (s : State) (d : Tick) : (s.endOperation).ticksTo d = s.ticksTo d := by
  simp [State.ticksTo]

/-! ### Machine/Windows.lean -/

@[simp] theorem State.issue_links (s : State) (i : RecIdx) (w : Window) : (s.issue i w).links = s.links := by
  simp [State.issue]
@[simp] theorem State.issue_sessions (s : State) (i : RecIdx) (w : Window) : (s.issue i w).sessions = s.sessions := by
  simp [State.issue]
@[simp] theorem State.issue_queue (s : State) (i : RecIdx) (w : Window) : (s.issue i w).queue = s.queue := by
  simp [State.issue]
@[simp] theorem State.issue_failures (s : State) (i : RecIdx) (w : Window) : (s.issue i w).failures = s.failures := by
  simp [State.issue]
@[simp] theorem State.issue_clock (s : State) (i : RecIdx) (w : Window) : (s.issue i w).clock = s.clock := by
  simp [State.issue]
@[simp] theorem State.issue_check (s : State) (i : RecIdx) (w : Window) : (s.issue i w).check = s.check := by
  simp [State.issue]
@[simp] theorem State.issue_watches (s : State) (i : RecIdx) (w : Window) : (s.issue i w).watches = s.watches := by
  simp [State.issue]
@[simp] theorem State.issue_notices (s : State) (i : RecIdx) (w : Window) : (s.issue i w).notices = s.notices := by
  simp [State.issue]
@[simp] theorem State.issue_slots (s : State) (i : RecIdx) (w : Window) : (s.issue i w).slots = s.slots := by
  simp [State.issue]
@[simp] theorem State.issue_engine (s : State) (i : RecIdx) (w : Window) : (s.issue i w).engine = s.engine := by
  simp [State.issue]
@[simp] theorem State.issue_band (s : State) (i : RecIdx) (w : Window) : (s.issue i w).band = s.band := by
  simp [State.issue]
@[simp] theorem State.issue_startUp (s : State) (i : RecIdx) (w : Window) : (s.issue i w).startUp = s.startUp := by
  simp [State.issue]
@[simp] theorem State.issue_pins (s : State) (i : RecIdx) (w : Window) : (s.issue i w).pins = s.pins := by
  simp [State.issue]
@[simp] theorem State.issue_pending (s : State) (i : RecIdx) (w : Window) : (s.issue i w).pending = s.pending := by
  simp [State.issue]
@[simp] theorem State.issue_link (s : State) (i : RecIdx) (w : Window) (j : Master) :
    (s.issue i w).link j = s.link j := by
  simp [State.link]
@[simp] theorem State.issue_session (s : State) (i : RecIdx) (w : Window) (j : Master) :
    (s.issue i w).session j = s.session j := by
  simp [State.session]
@[simp] theorem State.issue_failureList (s : State) (i : RecIdx) (w : Window) (j : Master) :
    (s.issue i w).failureList j = s.failureList j := by
  simp [State.failureList]
@[simp] theorem State.issue_watch (s : State) (i : RecIdx) (w : Window) (j : WatchIdx) :
    (s.issue i w).watch j = s.watch j := by
  simp [State.watch]
@[simp] theorem State.issue_notice (s : State) (i : RecIdx) (w : Window) (j : Master) :
    (s.issue i w).notice j = s.notice j := by
  simp [State.notice]
@[simp] theorem State.issue_slot (s : State) (i : RecIdx) (w : Window) (j : SlotIdx) :
    (s.issue i w).slot j = s.slot j := by
  simp [State.slot]
@[simp] theorem State.issue_mode (s : State) (i : RecIdx) (w : Window) : (s.issue i w).mode = s.mode := by
  simp [State.mode]
@[simp] theorem State.issue_now (s : State) (i : RecIdx) (w : Window) : (s.issue i w).now = s.now := by
  simp [State.now]
@[simp] theorem State.issue_after (s : State) (i : RecIdx) (w : Window) (n : Nat) :
    (s.issue i w).after n = s.after n := by
  simp [State.after]
@[simp] theorem State.issue_ticksTo (s : State) (i : RecIdx) (w : Window) (d : Tick) :
    (s.issue i w).ticksTo d = s.ticksTo d := by
  simp [State.ticksTo]

@[simp] theorem State.setWindow_links (s : State) (i : RecIdx) (w : Window) : (s.setWindow i w).links = s.links := by
  simp [State.setWindow]
@[simp] theorem State.setWindow_tallies (s : State) (i : RecIdx) (w : Window) :
    (s.setWindow i w).tallies = s.tallies := by
  simp [State.setWindow]
@[simp] theorem State.setWindow_sessions (s : State) (i : RecIdx) (w : Window) :
    (s.setWindow i w).sessions = s.sessions := by
  simp [State.setWindow]
@[simp] theorem State.setWindow_queue (s : State) (i : RecIdx) (w : Window) : (s.setWindow i w).queue = s.queue := by
  simp [State.setWindow]
@[simp] theorem State.setWindow_failures (s : State) (i : RecIdx) (w : Window) :
    (s.setWindow i w).failures = s.failures := by
  simp [State.setWindow]
@[simp] theorem State.setWindow_clock (s : State) (i : RecIdx) (w : Window) : (s.setWindow i w).clock = s.clock := by
  simp [State.setWindow]
@[simp] theorem State.setWindow_check (s : State) (i : RecIdx) (w : Window) : (s.setWindow i w).check = s.check := by
  simp [State.setWindow]
@[simp] theorem State.setWindow_watches (s : State) (i : RecIdx) (w : Window) :
    (s.setWindow i w).watches = s.watches := by
  simp [State.setWindow]
@[simp] theorem State.setWindow_notices (s : State) (i : RecIdx) (w : Window) :
    (s.setWindow i w).notices = s.notices := by
  simp [State.setWindow]
@[simp] theorem State.setWindow_slots (s : State) (i : RecIdx) (w : Window) : (s.setWindow i w).slots = s.slots := by
  simp [State.setWindow]
@[simp] theorem State.setWindow_engine (s : State) (i : RecIdx) (w : Window) :
    (s.setWindow i w).engine = s.engine := by
  simp [State.setWindow]
@[simp] theorem State.setWindow_band (s : State) (i : RecIdx) (w : Window) : (s.setWindow i w).band = s.band := by
  simp [State.setWindow]
@[simp] theorem State.setWindow_startUp (s : State) (i : RecIdx) (w : Window) :
    (s.setWindow i w).startUp = s.startUp := by
  simp [State.setWindow]
@[simp] theorem State.setWindow_pins (s : State) (i : RecIdx) (w : Window) : (s.setWindow i w).pins = s.pins := by
  simp [State.setWindow]
@[simp] theorem State.setWindow_pending (s : State) (i : RecIdx) (w : Window) :
    (s.setWindow i w).pending = s.pending := by
  simp [State.setWindow]
@[simp] theorem State.setWindow_link (s : State) (i : RecIdx) (w : Window) (j : Master) :
    (s.setWindow i w).link j = s.link j := by
  simp [State.link]
@[simp] theorem State.setWindow_tally (s : State) (i : RecIdx) (w : Window) (j : Master) :
    (s.setWindow i w).tally j = s.tally j := by
  simp [State.tally]
@[simp] theorem State.setWindow_session (s : State) (i : RecIdx) (w : Window) (j : Master) :
    (s.setWindow i w).session j = s.session j := by
  simp [State.session]
@[simp] theorem State.setWindow_failureList (s : State) (i : RecIdx) (w : Window) (j : Master) :
    (s.setWindow i w).failureList j = s.failureList j := by
  simp [State.failureList]
@[simp] theorem State.setWindow_watch (s : State) (i : RecIdx) (w : Window) (j : WatchIdx) :
    (s.setWindow i w).watch j = s.watch j := by
  simp [State.watch]
@[simp] theorem State.setWindow_notice (s : State) (i : RecIdx) (w : Window) (j : Master) :
    (s.setWindow i w).notice j = s.notice j := by
  simp [State.notice]
@[simp] theorem State.setWindow_slot (s : State) (i : RecIdx) (w : Window) (j : SlotIdx) :
    (s.setWindow i w).slot j = s.slot j := by
  simp [State.slot]
@[simp] theorem State.setWindow_mode (s : State) (i : RecIdx) (w : Window) : (s.setWindow i w).mode = s.mode := by
  simp [State.mode]
@[simp] theorem State.setWindow_now (s : State) (i : RecIdx) (w : Window) : (s.setWindow i w).now = s.now := by
  simp [State.now]
@[simp] theorem State.setWindow_after (s : State) (i : RecIdx) (w : Window) (n : Nat) :
    (s.setWindow i w).after n = s.after n := by
  simp [State.after]
@[simp] theorem State.setWindow_ticksTo (s : State) (i : RecIdx) (w : Window) (d : Tick) :
    (s.setWindow i w).ticksTo d = s.ticksTo d := by
  simp [State.ticksTo]

@[simp] theorem State.raiseIf_links (s : State) (m : Master) (f : Option Flag) : (s.raiseIf m f).links = s.links := by
  cases f <;> simp [State.raiseIf]
@[simp] theorem State.raiseIf_table (s : State) (m : Master) (f : Option Flag) : (s.raiseIf m f).table = s.table := by
  cases f <;> simp [State.raiseIf]
@[simp] theorem State.raiseIf_tallies (s : State) (m : Master) (f : Option Flag) :
    (s.raiseIf m f).tallies = s.tallies := by
  cases f <;> simp [State.raiseIf]
@[simp] theorem State.raiseIf_sessions (s : State) (m : Master) (f : Option Flag) :
    (s.raiseIf m f).sessions = s.sessions := by
  cases f <;> simp [State.raiseIf]
@[simp] theorem State.raiseIf_queue (s : State) (m : Master) (f : Option Flag) : (s.raiseIf m f).queue = s.queue := by
  cases f <;> simp [State.raiseIf]
@[simp] theorem State.raiseIf_failures (s : State) (m : Master) (f : Option Flag) :
    (s.raiseIf m f).failures = s.failures := by
  cases f <;> simp [State.raiseIf]
@[simp] theorem State.raiseIf_clock (s : State) (m : Master) (f : Option Flag) : (s.raiseIf m f).clock = s.clock := by
  cases f <;> simp [State.raiseIf]
@[simp] theorem State.raiseIf_check (s : State) (m : Master) (f : Option Flag) : (s.raiseIf m f).check = s.check := by
  cases f <;> simp [State.raiseIf]
@[simp] theorem State.raiseIf_watches (s : State) (m : Master) (f : Option Flag) :
    (s.raiseIf m f).watches = s.watches := by
  cases f <;> simp [State.raiseIf]
@[simp] theorem State.raiseIf_slots (s : State) (m : Master) (f : Option Flag) : (s.raiseIf m f).slots = s.slots := by
  cases f <;> simp [State.raiseIf]
@[simp] theorem State.raiseIf_engine (s : State) (m : Master) (f : Option Flag) :
    (s.raiseIf m f).engine = s.engine := by
  cases f <;> simp [State.raiseIf]
@[simp] theorem State.raiseIf_band (s : State) (m : Master) (f : Option Flag) : (s.raiseIf m f).band = s.band := by
  cases f <;> simp [State.raiseIf]
@[simp] theorem State.raiseIf_startUp (s : State) (m : Master) (f : Option Flag) :
    (s.raiseIf m f).startUp = s.startUp := by
  cases f <;> simp [State.raiseIf]
@[simp] theorem State.raiseIf_pins (s : State) (m : Master) (f : Option Flag) : (s.raiseIf m f).pins = s.pins := by
  cases f <;> simp [State.raiseIf]
@[simp] theorem State.raiseIf_pending (s : State) (m : Master) (f : Option Flag) :
    (s.raiseIf m f).pending = s.pending := by
  cases f <;> simp [State.raiseIf]
@[simp] theorem State.raiseIf_link (s : State) (m : Master) (f : Option Flag) (j : Master) :
    (s.raiseIf m f).link j = s.link j := by
  simp [State.link]
@[simp] theorem State.raiseIf_record (s : State) (m : Master) (f : Option Flag) (j : RecIdx) :
    (s.raiseIf m f).record j = s.record j := by
  simp [State.record]
@[simp] theorem State.raiseIf_tally (s : State) (m : Master) (f : Option Flag) (j : Master) :
    (s.raiseIf m f).tally j = s.tally j := by
  simp [State.tally]
@[simp] theorem State.raiseIf_session (s : State) (m : Master) (f : Option Flag) (j : Master) :
    (s.raiseIf m f).session j = s.session j := by
  simp [State.session]
@[simp] theorem State.raiseIf_failureList (s : State) (m : Master) (f : Option Flag) (j : Master) :
    (s.raiseIf m f).failureList j = s.failureList j := by
  simp [State.failureList]
@[simp] theorem State.raiseIf_watch (s : State) (m : Master) (f : Option Flag) (j : WatchIdx) :
    (s.raiseIf m f).watch j = s.watch j := by
  simp [State.watch]
@[simp] theorem State.raiseIf_slot (s : State) (m : Master) (f : Option Flag) (j : SlotIdx) :
    (s.raiseIf m f).slot j = s.slot j := by
  simp [State.slot]
@[simp] theorem State.raiseIf_mode (s : State) (m : Master) (f : Option Flag) : (s.raiseIf m f).mode = s.mode := by
  simp [State.mode]
@[simp] theorem State.raiseIf_now (s : State) (m : Master) (f : Option Flag) : (s.raiseIf m f).now = s.now := by
  simp [State.now]
@[simp] theorem State.raiseIf_after (s : State) (m : Master) (f : Option Flag) (n : Nat) :
    (s.raiseIf m f).after n = s.after n := by
  simp [State.after]
@[simp] theorem State.raiseIf_ticksTo (s : State) (m : Master) (f : Option Flag) (d : Tick) :
    (s.raiseIf m f).ticksTo d = s.ticksTo d := by
  simp [State.ticksTo]

@[simp] theorem State.releaseSlotOf_links (s : State) (w : Window) : (s.releaseSlotOf w).links = s.links := by
  unfold State.releaseSlotOf; split <;> simp
@[simp] theorem State.releaseSlotOf_table (s : State) (w : Window) : (s.releaseSlotOf w).table = s.table := by
  unfold State.releaseSlotOf; split <;> simp
@[simp] theorem State.releaseSlotOf_tallies (s : State) (w : Window) : (s.releaseSlotOf w).tallies = s.tallies := by
  unfold State.releaseSlotOf; split <;> simp
@[simp] theorem State.releaseSlotOf_sessions (s : State) (w : Window) :
    (s.releaseSlotOf w).sessions = s.sessions := by
  unfold State.releaseSlotOf; split <;> simp
@[simp] theorem State.releaseSlotOf_queue (s : State) (w : Window) : (s.releaseSlotOf w).queue = s.queue := by
  unfold State.releaseSlotOf; split <;> simp
@[simp] theorem State.releaseSlotOf_failures (s : State) (w : Window) :
    (s.releaseSlotOf w).failures = s.failures := by
  unfold State.releaseSlotOf; split <;> simp
@[simp] theorem State.releaseSlotOf_clock (s : State) (w : Window) : (s.releaseSlotOf w).clock = s.clock := by
  unfold State.releaseSlotOf; split <;> simp
@[simp] theorem State.releaseSlotOf_check (s : State) (w : Window) : (s.releaseSlotOf w).check = s.check := by
  unfold State.releaseSlotOf; split <;> simp
@[simp] theorem State.releaseSlotOf_watches (s : State) (w : Window) : (s.releaseSlotOf w).watches = s.watches := by
  unfold State.releaseSlotOf; split <;> simp
@[simp] theorem State.releaseSlotOf_notices (s : State) (w : Window) : (s.releaseSlotOf w).notices = s.notices := by
  unfold State.releaseSlotOf; split <;> simp
@[simp] theorem State.releaseSlotOf_engine (s : State) (w : Window) : (s.releaseSlotOf w).engine = s.engine := by
  unfold State.releaseSlotOf; split <;> simp
@[simp] theorem State.releaseSlotOf_band (s : State) (w : Window) : (s.releaseSlotOf w).band = s.band := by
  unfold State.releaseSlotOf; split <;> simp
@[simp] theorem State.releaseSlotOf_startUp (s : State) (w : Window) : (s.releaseSlotOf w).startUp = s.startUp := by
  unfold State.releaseSlotOf; split <;> simp
@[simp] theorem State.releaseSlotOf_pins (s : State) (w : Window) : (s.releaseSlotOf w).pins = s.pins := by
  unfold State.releaseSlotOf; split <;> simp
@[simp] theorem State.releaseSlotOf_pending (s : State) (w : Window) : (s.releaseSlotOf w).pending = s.pending := by
  unfold State.releaseSlotOf; split <;> simp
@[simp] theorem State.releaseSlotOf_link (s : State) (w : Window) (j : Master) :
    (s.releaseSlotOf w).link j = s.link j := by
  simp [State.link]
@[simp] theorem State.releaseSlotOf_record (s : State) (w : Window) (j : RecIdx) :
    (s.releaseSlotOf w).record j = s.record j := by
  simp [State.record]
@[simp] theorem State.releaseSlotOf_tally (s : State) (w : Window) (j : Master) :
    (s.releaseSlotOf w).tally j = s.tally j := by
  simp [State.tally]
@[simp] theorem State.releaseSlotOf_session (s : State) (w : Window) (j : Master) :
    (s.releaseSlotOf w).session j = s.session j := by
  simp [State.session]
@[simp] theorem State.releaseSlotOf_failureList (s : State) (w : Window) (j : Master) :
    (s.releaseSlotOf w).failureList j = s.failureList j := by
  simp [State.failureList]
@[simp] theorem State.releaseSlotOf_watch (s : State) (w : Window) (j : WatchIdx) :
    (s.releaseSlotOf w).watch j = s.watch j := by
  simp [State.watch]
@[simp] theorem State.releaseSlotOf_notice (s : State) (w : Window) (j : Master) :
    (s.releaseSlotOf w).notice j = s.notice j := by
  simp [State.notice]
@[simp] theorem State.releaseSlotOf_mode (s : State) (w : Window) : (s.releaseSlotOf w).mode = s.mode := by
  simp [State.mode]
@[simp] theorem State.releaseSlotOf_now (s : State) (w : Window) : (s.releaseSlotOf w).now = s.now := by
  simp [State.now]
@[simp] theorem State.releaseSlotOf_after (s : State) (w : Window) (n : Nat) :
    (s.releaseSlotOf w).after n = s.after n := by
  simp [State.after]
@[simp] theorem State.releaseSlotOf_ticksTo (s : State) (w : Window) (d : Tick) :
    (s.releaseSlotOf w).ticksTo d = s.ticksTo d := by
  simp [State.ticksTo]

@[simp] theorem State.retire_links (s : State) (c : RetireCause) (i : RecIdx) : (s.retire c i).links = s.links := by
  unfold State.retire; split <;> simp
@[simp] theorem State.retire_sessions (s : State) (c : RetireCause) (i : RecIdx) :
    (s.retire c i).sessions = s.sessions := by
  unfold State.retire; split <;> simp
@[simp] theorem State.retire_queue (s : State) (c : RetireCause) (i : RecIdx) : (s.retire c i).queue = s.queue := by
  unfold State.retire; split <;> simp
@[simp] theorem State.retire_failures (s : State) (c : RetireCause) (i : RecIdx) :
    (s.retire c i).failures = s.failures := by
  unfold State.retire; split <;> simp
@[simp] theorem State.retire_clock (s : State) (c : RetireCause) (i : RecIdx) : (s.retire c i).clock = s.clock := by
  unfold State.retire; split <;> simp
@[simp] theorem State.retire_check (s : State) (c : RetireCause) (i : RecIdx) : (s.retire c i).check = s.check := by
  unfold State.retire; split <;> simp
@[simp] theorem State.retire_watches (s : State) (c : RetireCause) (i : RecIdx) :
    (s.retire c i).watches = s.watches := by
  unfold State.retire; split <;> simp
@[simp] theorem State.retire_engine (s : State) (c : RetireCause) (i : RecIdx) :
    (s.retire c i).engine = s.engine := by
  unfold State.retire; split <;> simp
@[simp] theorem State.retire_band (s : State) (c : RetireCause) (i : RecIdx) : (s.retire c i).band = s.band := by
  unfold State.retire; split <;> simp
@[simp] theorem State.retire_startUp (s : State) (c : RetireCause) (i : RecIdx) :
    (s.retire c i).startUp = s.startUp := by
  unfold State.retire; split <;> simp
@[simp] theorem State.retire_pins (s : State) (c : RetireCause) (i : RecIdx) : (s.retire c i).pins = s.pins := by
  unfold State.retire; split <;> simp
@[simp] theorem State.retire_pending (s : State) (c : RetireCause) (i : RecIdx) :
    (s.retire c i).pending = s.pending := by
  unfold State.retire; split <;> simp
@[simp] theorem State.retire_link (s : State) (c : RetireCause) (i : RecIdx) (j : Master) :
    (s.retire c i).link j = s.link j := by
  simp [State.link]
@[simp] theorem State.retire_session (s : State) (c : RetireCause) (i : RecIdx) (j : Master) :
    (s.retire c i).session j = s.session j := by
  simp [State.session]
@[simp] theorem State.retire_failureList (s : State) (c : RetireCause) (i : RecIdx) (j : Master) :
    (s.retire c i).failureList j = s.failureList j := by
  simp [State.failureList]
@[simp] theorem State.retire_watch (s : State) (c : RetireCause) (i : RecIdx) (j : WatchIdx) :
    (s.retire c i).watch j = s.watch j := by
  simp [State.watch]
@[simp] theorem State.retire_mode (s : State) (c : RetireCause) (i : RecIdx) : (s.retire c i).mode = s.mode := by
  simp [State.mode]
@[simp] theorem State.retire_now (s : State) (c : RetireCause) (i : RecIdx) : (s.retire c i).now = s.now := by
  simp [State.now]
@[simp] theorem State.retire_after (s : State) (c : RetireCause) (i : RecIdx) (n : Nat) :
    (s.retire c i).after n = s.after n := by
  simp [State.after]
@[simp] theorem State.retire_ticksTo (s : State) (c : RetireCause) (i : RecIdx) (d : Tick) :
    (s.retire c i).ticksTo d = s.ticksTo d := by
  simp [State.ticksTo]

@[simp] theorem State.retireAll_links (s : State) (c : RetireCause) (l : List RecIdx) :
    (s.retireAll c l).links = s.links := by
  unfold State.retireAll; induction l generalizing s with
  | nil => rfl
  | cons i l ih => simp [ih]
@[simp] theorem State.retireAll_sessions (s : State) (c : RetireCause) (l : List RecIdx) :
    (s.retireAll c l).sessions = s.sessions := by
  unfold State.retireAll; induction l generalizing s with
  | nil => rfl
  | cons i l ih => simp [ih]
@[simp] theorem State.retireAll_queue (s : State) (c : RetireCause) (l : List RecIdx) :
    (s.retireAll c l).queue = s.queue := by
  unfold State.retireAll; induction l generalizing s with
  | nil => rfl
  | cons i l ih => simp [ih]
@[simp] theorem State.retireAll_failures (s : State) (c : RetireCause) (l : List RecIdx) :
    (s.retireAll c l).failures = s.failures := by
  unfold State.retireAll; induction l generalizing s with
  | nil => rfl
  | cons i l ih => simp [ih]
@[simp] theorem State.retireAll_clock (s : State) (c : RetireCause) (l : List RecIdx) :
    (s.retireAll c l).clock = s.clock := by
  unfold State.retireAll; induction l generalizing s with
  | nil => rfl
  | cons i l ih => simp [ih]
@[simp] theorem State.retireAll_check (s : State) (c : RetireCause) (l : List RecIdx) :
    (s.retireAll c l).check = s.check := by
  unfold State.retireAll; induction l generalizing s with
  | nil => rfl
  | cons i l ih => simp [ih]
@[simp] theorem State.retireAll_watches (s : State) (c : RetireCause) (l : List RecIdx) :
    (s.retireAll c l).watches = s.watches := by
  unfold State.retireAll; induction l generalizing s with
  | nil => rfl
  | cons i l ih => simp [ih]
@[simp] theorem State.retireAll_engine (s : State) (c : RetireCause) (l : List RecIdx) :
    (s.retireAll c l).engine = s.engine := by
  unfold State.retireAll; induction l generalizing s with
  | nil => rfl
  | cons i l ih => simp [ih]
@[simp] theorem State.retireAll_band (s : State) (c : RetireCause) (l : List RecIdx) :
    (s.retireAll c l).band = s.band := by
  unfold State.retireAll; induction l generalizing s with
  | nil => rfl
  | cons i l ih => simp [ih]
@[simp] theorem State.retireAll_startUp (s : State) (c : RetireCause) (l : List RecIdx) :
    (s.retireAll c l).startUp = s.startUp := by
  unfold State.retireAll; induction l generalizing s with
  | nil => rfl
  | cons i l ih => simp [ih]
@[simp] theorem State.retireAll_pins (s : State) (c : RetireCause) (l : List RecIdx) :
    (s.retireAll c l).pins = s.pins := by
  unfold State.retireAll; induction l generalizing s with
  | nil => rfl
  | cons i l ih => simp [ih]
@[simp] theorem State.retireAll_pending (s : State) (c : RetireCause) (l : List RecIdx) :
    (s.retireAll c l).pending = s.pending := by
  unfold State.retireAll; induction l generalizing s with
  | nil => rfl
  | cons i l ih => simp [ih]
@[simp] theorem State.retireAll_link (s : State) (c : RetireCause) (l : List RecIdx) (j : Master) :
    (s.retireAll c l).link j = s.link j := by
  simp [State.link]
@[simp] theorem State.retireAll_session (s : State) (c : RetireCause) (l : List RecIdx) (j : Master) :
    (s.retireAll c l).session j = s.session j := by
  simp [State.session]
@[simp] theorem State.retireAll_failureList (s : State) (c : RetireCause) (l : List RecIdx) (j : Master) :
    (s.retireAll c l).failureList j = s.failureList j := by
  simp [State.failureList]
@[simp] theorem State.retireAll_watch (s : State) (c : RetireCause) (l : List RecIdx) (j : WatchIdx) :
    (s.retireAll c l).watch j = s.watch j := by
  simp [State.watch]
@[simp] theorem State.retireAll_mode (s : State) (c : RetireCause) (l : List RecIdx) :
    (s.retireAll c l).mode = s.mode := by
  simp [State.mode]
@[simp] theorem State.retireAll_now (s : State) (c : RetireCause) (l : List RecIdx) :
    (s.retireAll c l).now = s.now := by
  simp [State.now]
@[simp] theorem State.retireAll_after (s : State) (c : RetireCause) (l : List RecIdx) (n : Nat) :
    (s.retireAll c l).after n = s.after n := by
  simp [State.after]
@[simp] theorem State.retireAll_ticksTo (s : State) (c : RetireCause) (l : List RecIdx) (d : Tick) :
    (s.retireAll c l).ticksTo d = s.ticksTo d := by
  simp [State.ticksTo]

@[simp] theorem State.drainWindow_links (s : State) (c : DrainCause) (g : Nat) (i : RecIdx) :
    (s.drainWindow c g i).links = s.links := by
  unfold State.drainWindow; repeat' split
  all_goals simp
@[simp] theorem State.drainWindow_sessions (s : State) (c : DrainCause) (g : Nat) (i : RecIdx) :
    (s.drainWindow c g i).sessions = s.sessions := by
  unfold State.drainWindow; repeat' split
  all_goals simp
@[simp] theorem State.drainWindow_queue (s : State) (c : DrainCause) (g : Nat) (i : RecIdx) :
    (s.drainWindow c g i).queue = s.queue := by
  unfold State.drainWindow; repeat' split
  all_goals simp
@[simp] theorem State.drainWindow_failures (s : State) (c : DrainCause) (g : Nat) (i : RecIdx) :
    (s.drainWindow c g i).failures = s.failures := by
  unfold State.drainWindow; repeat' split
  all_goals simp
@[simp] theorem State.drainWindow_clock (s : State) (c : DrainCause) (g : Nat) (i : RecIdx) :
    (s.drainWindow c g i).clock = s.clock := by
  unfold State.drainWindow; repeat' split
  all_goals simp
@[simp] theorem State.drainWindow_check (s : State) (c : DrainCause) (g : Nat) (i : RecIdx) :
    (s.drainWindow c g i).check = s.check := by
  unfold State.drainWindow; repeat' split
  all_goals simp
@[simp] theorem State.drainWindow_watches (s : State) (c : DrainCause) (g : Nat) (i : RecIdx) :
    (s.drainWindow c g i).watches = s.watches := by
  unfold State.drainWindow; repeat' split
  all_goals simp
@[simp] theorem State.drainWindow_engine (s : State) (c : DrainCause) (g : Nat) (i : RecIdx) :
    (s.drainWindow c g i).engine = s.engine := by
  unfold State.drainWindow; repeat' split
  all_goals simp
@[simp] theorem State.drainWindow_band (s : State) (c : DrainCause) (g : Nat) (i : RecIdx) :
    (s.drainWindow c g i).band = s.band := by
  unfold State.drainWindow; repeat' split
  all_goals simp
@[simp] theorem State.drainWindow_startUp (s : State) (c : DrainCause) (g : Nat) (i : RecIdx) :
    (s.drainWindow c g i).startUp = s.startUp := by
  unfold State.drainWindow; repeat' split
  all_goals simp
@[simp] theorem State.drainWindow_pins (s : State) (c : DrainCause) (g : Nat) (i : RecIdx) :
    (s.drainWindow c g i).pins = s.pins := by
  unfold State.drainWindow; repeat' split
  all_goals simp
@[simp] theorem State.drainWindow_pending (s : State) (c : DrainCause) (g : Nat) (i : RecIdx) :
    (s.drainWindow c g i).pending = s.pending := by
  unfold State.drainWindow; repeat' split
  all_goals simp
@[simp] theorem State.drainWindow_link (s : State) (c : DrainCause) (g : Nat) (i : RecIdx) (j : Master) :
    (s.drainWindow c g i).link j = s.link j := by
  simp [State.link]
@[simp] theorem State.drainWindow_session (s : State) (c : DrainCause) (g : Nat) (i : RecIdx) (j : Master) :
    (s.drainWindow c g i).session j = s.session j := by
  simp [State.session]
@[simp] theorem State.drainWindow_failureList (s : State) (c : DrainCause) (g : Nat) (i : RecIdx) (j : Master) :
    (s.drainWindow c g i).failureList j = s.failureList j := by
  simp [State.failureList]
@[simp] theorem State.drainWindow_watch (s : State) (c : DrainCause) (g : Nat) (i : RecIdx) (j : WatchIdx) :
    (s.drainWindow c g i).watch j = s.watch j := by
  simp [State.watch]
@[simp] theorem State.drainWindow_mode (s : State) (c : DrainCause) (g : Nat) (i : RecIdx) :
    (s.drainWindow c g i).mode = s.mode := by
  simp [State.mode]
@[simp] theorem State.drainWindow_now (s : State) (c : DrainCause) (g : Nat) (i : RecIdx) :
    (s.drainWindow c g i).now = s.now := by
  simp [State.now]
@[simp] theorem State.drainWindow_after (s : State) (c : DrainCause) (g : Nat) (i : RecIdx) (n : Nat) :
    (s.drainWindow c g i).after n = s.after n := by
  simp [State.after]
@[simp] theorem State.drainWindow_ticksTo (s : State) (c : DrainCause) (g : Nat) (i : RecIdx) (d : Tick) :
    (s.drainWindow c g i).ticksTo d = s.ticksTo d := by
  simp [State.ticksTo]

/-! ### Machine/Queue.lean -/

@[simp] theorem State.enqueue_links (s : State) (e : Waiter) : (s.enqueue e).links = s.links := by
  simp [State.enqueue]
@[simp] theorem State.enqueue_table (s : State) (e : Waiter) : (s.enqueue e).table = s.table := by
  simp [State.enqueue]
@[simp] theorem State.enqueue_tallies (s : State) (e : Waiter) : (s.enqueue e).tallies = s.tallies := by
  simp [State.enqueue]
@[simp] theorem State.enqueue_failures (s : State) (e : Waiter) : (s.enqueue e).failures = s.failures := by
  simp [State.enqueue]
@[simp] theorem State.enqueue_clock (s : State) (e : Waiter) : (s.enqueue e).clock = s.clock := by
  simp [State.enqueue]
@[simp] theorem State.enqueue_check (s : State) (e : Waiter) : (s.enqueue e).check = s.check := by
  simp [State.enqueue]
@[simp] theorem State.enqueue_watches (s : State) (e : Waiter) : (s.enqueue e).watches = s.watches := by
  simp [State.enqueue]
@[simp] theorem State.enqueue_notices (s : State) (e : Waiter) : (s.enqueue e).notices = s.notices := by
  simp [State.enqueue]
@[simp] theorem State.enqueue_slots (s : State) (e : Waiter) : (s.enqueue e).slots = s.slots := by
  simp [State.enqueue]
@[simp] theorem State.enqueue_engine (s : State) (e : Waiter) : (s.enqueue e).engine = s.engine := by
  simp [State.enqueue]
@[simp] theorem State.enqueue_band (s : State) (e : Waiter) : (s.enqueue e).band = s.band := by
  simp [State.enqueue]
@[simp] theorem State.enqueue_startUp (s : State) (e : Waiter) : (s.enqueue e).startUp = s.startUp := by
  simp [State.enqueue]
@[simp] theorem State.enqueue_pins (s : State) (e : Waiter) : (s.enqueue e).pins = s.pins := by
  simp [State.enqueue]
@[simp] theorem State.enqueue_pending (s : State) (e : Waiter) : (s.enqueue e).pending = s.pending := by
  simp [State.enqueue]
@[simp] theorem State.enqueue_link (s : State) (e : Waiter) (j : Master) : (s.enqueue e).link j = s.link j := by
  simp [State.link]
@[simp] theorem State.enqueue_record (s : State) (e : Waiter) (j : RecIdx) : (s.enqueue e).record j = s.record j := by
  simp [State.record]
@[simp] theorem State.enqueue_tally (s : State) (e : Waiter) (j : Master) : (s.enqueue e).tally j = s.tally j := by
  simp [State.tally]
@[simp] theorem State.enqueue_failureList (s : State) (e : Waiter) (j : Master) :
    (s.enqueue e).failureList j = s.failureList j := by
  simp [State.failureList]
@[simp] theorem State.enqueue_watch (s : State) (e : Waiter) (j : WatchIdx) : (s.enqueue e).watch j = s.watch j := by
  simp [State.watch]
@[simp] theorem State.enqueue_notice (s : State) (e : Waiter) (j : Master) : (s.enqueue e).notice j = s.notice j := by
  simp [State.notice]
@[simp] theorem State.enqueue_slot (s : State) (e : Waiter) (j : SlotIdx) : (s.enqueue e).slot j = s.slot j := by
  simp [State.slot]
@[simp] theorem State.enqueue_mode (s : State) (e : Waiter) : (s.enqueue e).mode = s.mode := by
  simp [State.mode]
@[simp] theorem State.enqueue_now (s : State) (e : Waiter) : (s.enqueue e).now = s.now := by
  simp [State.now]
@[simp] theorem State.enqueue_after (s : State) (e : Waiter) (n : Nat) : (s.enqueue e).after n = s.after n := by
  simp [State.after]
@[simp] theorem State.enqueue_ticksTo (s : State) (e : Waiter) (d : Tick) :
    (s.enqueue e).ticksTo d = s.ticksTo d := by
  simp [State.ticksTo]

@[simp] theorem State.waitFail_links (s : State) (c : FailCause) (e : Waiter) : (s.waitFail c e).links = s.links := by
  simp [State.waitFail]
@[simp] theorem State.waitFail_table (s : State) (c : FailCause) (e : Waiter) : (s.waitFail c e).table = s.table := by
  simp [State.waitFail]
@[simp] theorem State.waitFail_tallies (s : State) (c : FailCause) (e : Waiter) :
    (s.waitFail c e).tallies = s.tallies := by
  simp [State.waitFail]
@[simp] theorem State.waitFail_sessions (s : State) (c : FailCause) (e : Waiter) :
    (s.waitFail c e).sessions = s.sessions := by
  simp [State.waitFail]
@[simp] theorem State.waitFail_queue (s : State) (c : FailCause) (e : Waiter) : (s.waitFail c e).queue = s.queue := by
  simp [State.waitFail]
@[simp] theorem State.waitFail_clock (s : State) (c : FailCause) (e : Waiter) : (s.waitFail c e).clock = s.clock := by
  simp [State.waitFail]
@[simp] theorem State.waitFail_check (s : State) (c : FailCause) (e : Waiter) : (s.waitFail c e).check = s.check := by
  simp [State.waitFail]
@[simp] theorem State.waitFail_watches (s : State) (c : FailCause) (e : Waiter) :
    (s.waitFail c e).watches = s.watches := by
  simp [State.waitFail]
@[simp] theorem State.waitFail_slots (s : State) (c : FailCause) (e : Waiter) : (s.waitFail c e).slots = s.slots := by
  simp [State.waitFail]
@[simp] theorem State.waitFail_engine (s : State) (c : FailCause) (e : Waiter) :
    (s.waitFail c e).engine = s.engine := by
  simp [State.waitFail]
@[simp] theorem State.waitFail_band (s : State) (c : FailCause) (e : Waiter) : (s.waitFail c e).band = s.band := by
  simp [State.waitFail]
@[simp] theorem State.waitFail_startUp (s : State) (c : FailCause) (e : Waiter) :
    (s.waitFail c e).startUp = s.startUp := by
  simp [State.waitFail]
@[simp] theorem State.waitFail_pins (s : State) (c : FailCause) (e : Waiter) : (s.waitFail c e).pins = s.pins := by
  simp [State.waitFail]
@[simp] theorem State.waitFail_pending (s : State) (c : FailCause) (e : Waiter) :
    (s.waitFail c e).pending = s.pending := by
  simp [State.waitFail]
@[simp] theorem State.waitFail_link (s : State) (c : FailCause) (e : Waiter) (j : Master) :
    (s.waitFail c e).link j = s.link j := by
  simp [State.link]
@[simp] theorem State.waitFail_record (s : State) (c : FailCause) (e : Waiter) (j : RecIdx) :
    (s.waitFail c e).record j = s.record j := by
  simp [State.record]
@[simp] theorem State.waitFail_tally (s : State) (c : FailCause) (e : Waiter) (j : Master) :
    (s.waitFail c e).tally j = s.tally j := by
  simp [State.tally]
@[simp] theorem State.waitFail_session (s : State) (c : FailCause) (e : Waiter) (j : Master) :
    (s.waitFail c e).session j = s.session j := by
  simp [State.session]
@[simp] theorem State.waitFail_watch (s : State) (c : FailCause) (e : Waiter) (j : WatchIdx) :
    (s.waitFail c e).watch j = s.watch j := by
  simp [State.watch]
@[simp] theorem State.waitFail_slot (s : State) (c : FailCause) (e : Waiter) (j : SlotIdx) :
    (s.waitFail c e).slot j = s.slot j := by
  simp [State.slot]
@[simp] theorem State.waitFail_mode (s : State) (c : FailCause) (e : Waiter) : (s.waitFail c e).mode = s.mode := by
  simp [State.mode]
@[simp] theorem State.waitFail_now (s : State) (c : FailCause) (e : Waiter) : (s.waitFail c e).now = s.now := by
  simp [State.now]
@[simp] theorem State.waitFail_after (s : State) (c : FailCause) (e : Waiter) (n : Nat) :
    (s.waitFail c e).after n = s.after n := by
  simp [State.after]
@[simp] theorem State.waitFail_ticksTo (s : State) (c : FailCause) (e : Waiter) (d : Tick) :
    (s.waitFail c e).ticksTo d = s.ticksTo d := by
  simp [State.ticksTo]

theorem foldl_waitFail_links (s : State) (c : FailCause) (l : List Waiter) :
    (l.foldl (fun t e => t.waitFail c e) s).links = s.links := by
  induction l generalizing s with
  | nil => rfl
  | cons e l ih => simp [ih]
theorem foldl_waitFail_table (s : State) (c : FailCause) (l : List Waiter) :
    (l.foldl (fun t e => t.waitFail c e) s).table = s.table := by
  induction l generalizing s with
  | nil => rfl
  | cons e l ih => simp [ih]
theorem foldl_waitFail_tallies (s : State) (c : FailCause) (l : List Waiter) :
    (l.foldl (fun t e => t.waitFail c e) s).tallies = s.tallies := by
  induction l generalizing s with
  | nil => rfl
  | cons e l ih => simp [ih]
theorem foldl_waitFail_sessions (s : State) (c : FailCause) (l : List Waiter) :
    (l.foldl (fun t e => t.waitFail c e) s).sessions = s.sessions := by
  induction l generalizing s with
  | nil => rfl
  | cons e l ih => simp [ih]
theorem foldl_waitFail_queue (s : State) (c : FailCause) (l : List Waiter) :
    (l.foldl (fun t e => t.waitFail c e) s).queue = s.queue := by
  induction l generalizing s with
  | nil => rfl
  | cons e l ih => simp [ih]
theorem foldl_waitFail_clock (s : State) (c : FailCause) (l : List Waiter) :
    (l.foldl (fun t e => t.waitFail c e) s).clock = s.clock := by
  induction l generalizing s with
  | nil => rfl
  | cons e l ih => simp [ih]
theorem foldl_waitFail_check (s : State) (c : FailCause) (l : List Waiter) :
    (l.foldl (fun t e => t.waitFail c e) s).check = s.check := by
  induction l generalizing s with
  | nil => rfl
  | cons e l ih => simp [ih]
theorem foldl_waitFail_watches (s : State) (c : FailCause) (l : List Waiter) :
    (l.foldl (fun t e => t.waitFail c e) s).watches = s.watches := by
  induction l generalizing s with
  | nil => rfl
  | cons e l ih => simp [ih]
theorem foldl_waitFail_slots (s : State) (c : FailCause) (l : List Waiter) :
    (l.foldl (fun t e => t.waitFail c e) s).slots = s.slots := by
  induction l generalizing s with
  | nil => rfl
  | cons e l ih => simp [ih]
theorem foldl_waitFail_engine (s : State) (c : FailCause) (l : List Waiter) :
    (l.foldl (fun t e => t.waitFail c e) s).engine = s.engine := by
  induction l generalizing s with
  | nil => rfl
  | cons e l ih => simp [ih]
theorem foldl_waitFail_band (s : State) (c : FailCause) (l : List Waiter) :
    (l.foldl (fun t e => t.waitFail c e) s).band = s.band := by
  induction l generalizing s with
  | nil => rfl
  | cons e l ih => simp [ih]
theorem foldl_waitFail_startUp (s : State) (c : FailCause) (l : List Waiter) :
    (l.foldl (fun t e => t.waitFail c e) s).startUp = s.startUp := by
  induction l generalizing s with
  | nil => rfl
  | cons e l ih => simp [ih]
theorem foldl_waitFail_pins (s : State) (c : FailCause) (l : List Waiter) :
    (l.foldl (fun t e => t.waitFail c e) s).pins = s.pins := by
  induction l generalizing s with
  | nil => rfl
  | cons e l ih => simp [ih]
theorem foldl_waitFail_pending (s : State) (c : FailCause) (l : List Waiter) :
    (l.foldl (fun t e => t.waitFail c e) s).pending = s.pending := by
  induction l generalizing s with
  | nil => rfl
  | cons e l ih => simp [ih]
@[simp] theorem State.removeWaiters_links (s : State) (c : Option FailCause) (p : Waiter → Bool) :
    (s.removeWaiters c p).links = s.links := by
  cases c <;> simp [State.removeWaiters, foldl_waitFail_links]
@[simp] theorem State.removeWaiters_table (s : State) (c : Option FailCause) (p : Waiter → Bool) :
    (s.removeWaiters c p).table = s.table := by
  cases c <;> simp [State.removeWaiters, foldl_waitFail_table]
@[simp] theorem State.removeWaiters_tallies (s : State) (c : Option FailCause) (p : Waiter → Bool) :
    (s.removeWaiters c p).tallies = s.tallies := by
  cases c <;> simp [State.removeWaiters, foldl_waitFail_tallies]
@[simp] theorem State.removeWaiters_sessions (s : State) (c : Option FailCause) (p : Waiter → Bool) :
    (s.removeWaiters c p).sessions = s.sessions := by
  cases c <;> simp [State.removeWaiters, foldl_waitFail_sessions]
@[simp] theorem State.removeWaiters_clock (s : State) (c : Option FailCause) (p : Waiter → Bool) :
    (s.removeWaiters c p).clock = s.clock := by
  cases c <;> simp [State.removeWaiters, foldl_waitFail_clock]
@[simp] theorem State.removeWaiters_check (s : State) (c : Option FailCause) (p : Waiter → Bool) :
    (s.removeWaiters c p).check = s.check := by
  cases c <;> simp [State.removeWaiters, foldl_waitFail_check]
@[simp] theorem State.removeWaiters_watches (s : State) (c : Option FailCause) (p : Waiter → Bool) :
    (s.removeWaiters c p).watches = s.watches := by
  cases c <;> simp [State.removeWaiters, foldl_waitFail_watches]
@[simp] theorem State.removeWaiters_slots (s : State) (c : Option FailCause) (p : Waiter → Bool) :
    (s.removeWaiters c p).slots = s.slots := by
  cases c <;> simp [State.removeWaiters, foldl_waitFail_slots]
@[simp] theorem State.removeWaiters_engine (s : State) (c : Option FailCause) (p : Waiter → Bool) :
    (s.removeWaiters c p).engine = s.engine := by
  cases c <;> simp [State.removeWaiters, foldl_waitFail_engine]
@[simp] theorem State.removeWaiters_band (s : State) (c : Option FailCause) (p : Waiter → Bool) :
    (s.removeWaiters c p).band = s.band := by
  cases c <;> simp [State.removeWaiters, foldl_waitFail_band]
@[simp] theorem State.removeWaiters_startUp (s : State) (c : Option FailCause) (p : Waiter → Bool) :
    (s.removeWaiters c p).startUp = s.startUp := by
  cases c <;> simp [State.removeWaiters, foldl_waitFail_startUp]
@[simp] theorem State.removeWaiters_pins (s : State) (c : Option FailCause) (p : Waiter → Bool) :
    (s.removeWaiters c p).pins = s.pins := by
  cases c <;> simp [State.removeWaiters, foldl_waitFail_pins]
@[simp] theorem State.removeWaiters_pending (s : State) (c : Option FailCause) (p : Waiter → Bool) :
    (s.removeWaiters c p).pending = s.pending := by
  cases c <;> simp [State.removeWaiters, foldl_waitFail_pending]
@[simp] theorem State.removeWaiters_link (s : State) (c : Option FailCause) (p : Waiter → Bool) (j : Master) :
    (s.removeWaiters c p).link j = s.link j := by
  simp [State.link]
@[simp] theorem State.removeWaiters_record (s : State) (c : Option FailCause) (p : Waiter → Bool) (j : RecIdx) :
    (s.removeWaiters c p).record j = s.record j := by
  simp [State.record]
@[simp] theorem State.removeWaiters_tally (s : State) (c : Option FailCause) (p : Waiter → Bool) (j : Master) :
    (s.removeWaiters c p).tally j = s.tally j := by
  simp [State.tally]
@[simp] theorem State.removeWaiters_session (s : State) (c : Option FailCause) (p : Waiter → Bool) (j : Master) :
    (s.removeWaiters c p).session j = s.session j := by
  simp [State.session]
@[simp] theorem State.removeWaiters_watch (s : State) (c : Option FailCause) (p : Waiter → Bool) (j : WatchIdx) :
    (s.removeWaiters c p).watch j = s.watch j := by
  simp [State.watch]
@[simp] theorem State.removeWaiters_slot (s : State) (c : Option FailCause) (p : Waiter → Bool) (j : SlotIdx) :
    (s.removeWaiters c p).slot j = s.slot j := by
  simp [State.slot]
@[simp] theorem State.removeWaiters_mode (s : State) (c : Option FailCause) (p : Waiter → Bool) :
    (s.removeWaiters c p).mode = s.mode := by
  simp [State.mode]
@[simp] theorem State.removeWaiters_now (s : State) (c : Option FailCause) (p : Waiter → Bool) :
    (s.removeWaiters c p).now = s.now := by
  simp [State.now]
@[simp] theorem State.removeWaiters_after (s : State) (c : Option FailCause) (p : Waiter → Bool) (n : Nat) :
    (s.removeWaiters c p).after n = s.after n := by
  simp [State.after]
@[simp] theorem State.removeWaiters_ticksTo (s : State) (c : Option FailCause) (p : Waiter → Bool) (d : Tick) :
    (s.removeWaiters c p).ticksTo d = s.ticksTo d := by
  simp [State.ticksTo]

theorem scanFrom_links (older rest : List Waiter) (s : State) : (scanFrom older rest s).links = s.links := by
  induction rest generalizing older s with
  | nil => simp [scanFrom]
  | cons e rest ih =>
    unfold scanFrom
    repeat' split
    all_goals simp [ih]
theorem scanFrom_sessions (older rest : List Waiter) (s : State) : (scanFrom older rest s).sessions = s.sessions := by
  induction rest generalizing older s with
  | nil => simp [scanFrom]
  | cons e rest ih =>
    unfold scanFrom
    repeat' split
    all_goals simp [ih]
theorem scanFrom_clock (older rest : List Waiter) (s : State) : (scanFrom older rest s).clock = s.clock := by
  induction rest generalizing older s with
  | nil => simp [scanFrom]
  | cons e rest ih =>
    unfold scanFrom
    repeat' split
    all_goals simp [ih]
theorem scanFrom_check (older rest : List Waiter) (s : State) : (scanFrom older rest s).check = s.check := by
  induction rest generalizing older s with
  | nil => simp [scanFrom]
  | cons e rest ih =>
    unfold scanFrom
    repeat' split
    all_goals simp [ih]
theorem scanFrom_watches (older rest : List Waiter) (s : State) : (scanFrom older rest s).watches = s.watches := by
  induction rest generalizing older s with
  | nil => simp [scanFrom]
  | cons e rest ih =>
    unfold scanFrom
    repeat' split
    all_goals simp [ih]
theorem scanFrom_slots (older rest : List Waiter) (s : State) : (scanFrom older rest s).slots = s.slots := by
  induction rest generalizing older s with
  | nil => simp [scanFrom]
  | cons e rest ih =>
    unfold scanFrom
    repeat' split
    all_goals simp [ih]
theorem scanFrom_engine (older rest : List Waiter) (s : State) : (scanFrom older rest s).engine = s.engine := by
  induction rest generalizing older s with
  | nil => simp [scanFrom]
  | cons e rest ih =>
    unfold scanFrom
    repeat' split
    all_goals simp [ih]
theorem scanFrom_band (older rest : List Waiter) (s : State) : (scanFrom older rest s).band = s.band := by
  induction rest generalizing older s with
  | nil => simp [scanFrom]
  | cons e rest ih =>
    unfold scanFrom
    repeat' split
    all_goals simp [ih]
theorem scanFrom_startUp (older rest : List Waiter) (s : State) : (scanFrom older rest s).startUp = s.startUp := by
  induction rest generalizing older s with
  | nil => simp [scanFrom]
  | cons e rest ih =>
    unfold scanFrom
    repeat' split
    all_goals simp [ih]
theorem scanFrom_pins (older rest : List Waiter) (s : State) : (scanFrom older rest s).pins = s.pins := by
  induction rest generalizing older s with
  | nil => simp [scanFrom]
  | cons e rest ih =>
    unfold scanFrom
    repeat' split
    all_goals simp [ih]
theorem scanFrom_pending (older rest : List Waiter) (s : State) : (scanFrom older rest s).pending = s.pending := by
  induction rest generalizing older s with
  | nil => simp [scanFrom]
  | cons e rest ih =>
    unfold scanFrom
    repeat' split
    all_goals simp [ih]
@[simp] theorem State.grantScan_links (s : State) : (s.grantScan).links = s.links := by
  simp [State.grantScan, scanFrom_links]
@[simp] theorem State.grantScan_sessions (s : State) : (s.grantScan).sessions = s.sessions := by
  simp [State.grantScan, scanFrom_sessions]
@[simp] theorem State.grantScan_clock (s : State) : (s.grantScan).clock = s.clock := by
  simp [State.grantScan, scanFrom_clock]
@[simp] theorem State.grantScan_check (s : State) : (s.grantScan).check = s.check := by
  simp [State.grantScan, scanFrom_check]
@[simp] theorem State.grantScan_watches (s : State) : (s.grantScan).watches = s.watches := by
  simp [State.grantScan, scanFrom_watches]
@[simp] theorem State.grantScan_slots (s : State) : (s.grantScan).slots = s.slots := by
  simp [State.grantScan, scanFrom_slots]
@[simp] theorem State.grantScan_engine (s : State) : (s.grantScan).engine = s.engine := by
  simp [State.grantScan, scanFrom_engine]
@[simp] theorem State.grantScan_band (s : State) : (s.grantScan).band = s.band := by
  simp [State.grantScan, scanFrom_band]
@[simp] theorem State.grantScan_startUp (s : State) : (s.grantScan).startUp = s.startUp := by
  simp [State.grantScan, scanFrom_startUp]
@[simp] theorem State.grantScan_pins (s : State) : (s.grantScan).pins = s.pins := by
  simp [State.grantScan, scanFrom_pins]
@[simp] theorem State.grantScan_pending (s : State) : (s.grantScan).pending = s.pending := by
  simp [State.grantScan, scanFrom_pending]
@[simp] theorem State.grantScan_link (s : State) (j : Master) : (s.grantScan).link j = s.link j := by
  simp [State.link]
@[simp] theorem State.grantScan_session (s : State) (j : Master) : (s.grantScan).session j = s.session j := by
  simp [State.session]
@[simp] theorem State.grantScan_watch (s : State) (j : WatchIdx) : (s.grantScan).watch j = s.watch j := by
  simp [State.watch]
@[simp] theorem State.grantScan_slot (s : State) (j : SlotIdx) : (s.grantScan).slot j = s.slot j := by
  simp [State.slot]
@[simp] theorem State.grantScan_mode (s : State) : (s.grantScan).mode = s.mode := by
  simp [State.mode]
@[simp] theorem State.grantScan_now (s : State) : (s.grantScan).now = s.now := by
  simp [State.now]
@[simp] theorem State.grantScan_after (s : State) (n : Nat) : (s.grantScan).after n = s.after n := by
  simp [State.after]
@[simp] theorem State.grantScan_ticksTo (s : State) (d : Tick) : (s.grantScan).ticksTo d = s.ticksTo d := by
  simp [State.ticksTo]

@[simp] theorem State.expireWait_links (s : State) (m : Master) (t : Word) : (s.expireWait m t).links = s.links := by
  unfold State.expireWait; split <;> simp
@[simp] theorem State.expireWait_sessions (s : State) (m : Master) (t : Word) :
    (s.expireWait m t).sessions = s.sessions := by
  unfold State.expireWait; split <;> simp
@[simp] theorem State.expireWait_clock (s : State) (m : Master) (t : Word) : (s.expireWait m t).clock = s.clock := by
  unfold State.expireWait; split <;> simp
@[simp] theorem State.expireWait_check (s : State) (m : Master) (t : Word) : (s.expireWait m t).check = s.check := by
  unfold State.expireWait; split <;> simp
@[simp] theorem State.expireWait_watches (s : State) (m : Master) (t : Word) :
    (s.expireWait m t).watches = s.watches := by
  unfold State.expireWait; split <;> simp
@[simp] theorem State.expireWait_slots (s : State) (m : Master) (t : Word) : (s.expireWait m t).slots = s.slots := by
  unfold State.expireWait; split <;> simp
@[simp] theorem State.expireWait_engine (s : State) (m : Master) (t : Word) :
    (s.expireWait m t).engine = s.engine := by
  unfold State.expireWait; split <;> simp
@[simp] theorem State.expireWait_band (s : State) (m : Master) (t : Word) : (s.expireWait m t).band = s.band := by
  unfold State.expireWait; split <;> simp
@[simp] theorem State.expireWait_startUp (s : State) (m : Master) (t : Word) :
    (s.expireWait m t).startUp = s.startUp := by
  unfold State.expireWait; split <;> simp
@[simp] theorem State.expireWait_pins (s : State) (m : Master) (t : Word) : (s.expireWait m t).pins = s.pins := by
  unfold State.expireWait; split <;> simp
@[simp] theorem State.expireWait_pending (s : State) (m : Master) (t : Word) :
    (s.expireWait m t).pending = s.pending := by
  unfold State.expireWait; split <;> simp
@[simp] theorem State.expireWait_link (s : State) (m : Master) (t : Word) (j : Master) :
    (s.expireWait m t).link j = s.link j := by
  simp [State.link]
@[simp] theorem State.expireWait_session (s : State) (m : Master) (t : Word) (j : Master) :
    (s.expireWait m t).session j = s.session j := by
  simp [State.session]
@[simp] theorem State.expireWait_watch (s : State) (m : Master) (t : Word) (j : WatchIdx) :
    (s.expireWait m t).watch j = s.watch j := by
  simp [State.watch]
@[simp] theorem State.expireWait_slot (s : State) (m : Master) (t : Word) (j : SlotIdx) :
    (s.expireWait m t).slot j = s.slot j := by
  simp [State.slot]
@[simp] theorem State.expireWait_mode (s : State) (m : Master) (t : Word) : (s.expireWait m t).mode = s.mode := by
  simp [State.mode]
@[simp] theorem State.expireWait_now (s : State) (m : Master) (t : Word) : (s.expireWait m t).now = s.now := by
  simp [State.now]
@[simp] theorem State.expireWait_after (s : State) (m : Master) (t : Word) (n : Nat) :
    (s.expireWait m t).after n = s.after n := by
  simp [State.after]
@[simp] theorem State.expireWait_ticksTo (s : State) (m : Master) (t : Word) (d : Tick) :
    (s.expireWait m t).ticksTo d = s.ticksTo d := by
  simp [State.ticksTo]

/-! ### Machine/Sessions.lean -/

@[simp] theorem State.freeWatches_links (s : State) (m : Master) : (s.freeWatches m).links = s.links := by
  simp [State.freeWatches]
@[simp] theorem State.freeWatches_table (s : State) (m : Master) : (s.freeWatches m).table = s.table := by
  simp [State.freeWatches]
@[simp] theorem State.freeWatches_tallies (s : State) (m : Master) : (s.freeWatches m).tallies = s.tallies := by
  simp [State.freeWatches]
@[simp] theorem State.freeWatches_sessions (s : State) (m : Master) : (s.freeWatches m).sessions = s.sessions := by
  simp [State.freeWatches]
@[simp] theorem State.freeWatches_queue (s : State) (m : Master) : (s.freeWatches m).queue = s.queue := by
  simp [State.freeWatches]
@[simp] theorem State.freeWatches_failures (s : State) (m : Master) : (s.freeWatches m).failures = s.failures := by
  simp [State.freeWatches]
@[simp] theorem State.freeWatches_clock (s : State) (m : Master) : (s.freeWatches m).clock = s.clock := by
  simp [State.freeWatches]
@[simp] theorem State.freeWatches_check (s : State) (m : Master) : (s.freeWatches m).check = s.check := by
  simp [State.freeWatches]
@[simp] theorem State.freeWatches_notices (s : State) (m : Master) : (s.freeWatches m).notices = s.notices := by
  simp [State.freeWatches]
@[simp] theorem State.freeWatches_slots (s : State) (m : Master) : (s.freeWatches m).slots = s.slots := by
  simp [State.freeWatches]
@[simp] theorem State.freeWatches_engine (s : State) (m : Master) : (s.freeWatches m).engine = s.engine := by
  simp [State.freeWatches]
@[simp] theorem State.freeWatches_band (s : State) (m : Master) : (s.freeWatches m).band = s.band := by
  simp [State.freeWatches]
@[simp] theorem State.freeWatches_startUp (s : State) (m : Master) : (s.freeWatches m).startUp = s.startUp := by
  simp [State.freeWatches]
@[simp] theorem State.freeWatches_pins (s : State) (m : Master) : (s.freeWatches m).pins = s.pins := by
  simp [State.freeWatches]
@[simp] theorem State.freeWatches_pending (s : State) (m : Master) : (s.freeWatches m).pending = s.pending := by
  simp [State.freeWatches]
@[simp] theorem State.freeWatches_link (s : State) (m : Master) (j : Master) :
    (s.freeWatches m).link j = s.link j := by
  simp [State.link]
@[simp] theorem State.freeWatches_record (s : State) (m : Master) (j : RecIdx) :
    (s.freeWatches m).record j = s.record j := by
  simp [State.record]
@[simp] theorem State.freeWatches_tally (s : State) (m : Master) (j : Master) :
    (s.freeWatches m).tally j = s.tally j := by
  simp [State.tally]
@[simp] theorem State.freeWatches_session (s : State) (m : Master) (j : Master) :
    (s.freeWatches m).session j = s.session j := by
  simp [State.session]
@[simp] theorem State.freeWatches_failureList (s : State) (m : Master) (j : Master) :
    (s.freeWatches m).failureList j = s.failureList j := by
  simp [State.failureList]
@[simp] theorem State.freeWatches_notice (s : State) (m : Master) (j : Master) :
    (s.freeWatches m).notice j = s.notice j := by
  simp [State.notice]
@[simp] theorem State.freeWatches_slot (s : State) (m : Master) (j : SlotIdx) :
    (s.freeWatches m).slot j = s.slot j := by
  simp [State.slot]
@[simp] theorem State.freeWatches_mode (s : State) (m : Master) : (s.freeWatches m).mode = s.mode := by
  simp [State.mode]
@[simp] theorem State.freeWatches_now (s : State) (m : Master) : (s.freeWatches m).now = s.now := by
  simp [State.now]
@[simp] theorem State.freeWatches_after (s : State) (m : Master) (n : Nat) :
    (s.freeWatches m).after n = s.after n := by
  simp [State.after]
@[simp] theorem State.freeWatches_ticksTo (s : State) (m : Master) (d : Tick) :
    (s.freeWatches m).ticksTo d = s.ticksTo d := by
  simp [State.ticksTo]

@[simp] theorem State.setSessionState_links (s : State) (m : Master) (x : SessionState) :
    (s.setSessionState m x).links = s.links := by
  simp [State.setSessionState]
@[simp] theorem State.setSessionState_table (s : State) (m : Master) (x : SessionState) :
    (s.setSessionState m x).table = s.table := by
  simp [State.setSessionState]
@[simp] theorem State.setSessionState_tallies (s : State) (m : Master) (x : SessionState) :
    (s.setSessionState m x).tallies = s.tallies := by
  simp [State.setSessionState]
@[simp] theorem State.setSessionState_queue (s : State) (m : Master) (x : SessionState) :
    (s.setSessionState m x).queue = s.queue := by
  simp [State.setSessionState]
@[simp] theorem State.setSessionState_failures (s : State) (m : Master) (x : SessionState) :
    (s.setSessionState m x).failures = s.failures := by
  simp [State.setSessionState]
@[simp] theorem State.setSessionState_clock (s : State) (m : Master) (x : SessionState) :
    (s.setSessionState m x).clock = s.clock := by
  simp [State.setSessionState]
@[simp] theorem State.setSessionState_check (s : State) (m : Master) (x : SessionState) :
    (s.setSessionState m x).check = s.check := by
  simp [State.setSessionState]
@[simp] theorem State.setSessionState_watches (s : State) (m : Master) (x : SessionState) :
    (s.setSessionState m x).watches = s.watches := by
  simp [State.setSessionState]
@[simp] theorem State.setSessionState_notices (s : State) (m : Master) (x : SessionState) :
    (s.setSessionState m x).notices = s.notices := by
  simp [State.setSessionState]
@[simp] theorem State.setSessionState_slots (s : State) (m : Master) (x : SessionState) :
    (s.setSessionState m x).slots = s.slots := by
  simp [State.setSessionState]
@[simp] theorem State.setSessionState_engine (s : State) (m : Master) (x : SessionState) :
    (s.setSessionState m x).engine = s.engine := by
  simp [State.setSessionState]
@[simp] theorem State.setSessionState_band (s : State) (m : Master) (x : SessionState) :
    (s.setSessionState m x).band = s.band := by
  simp [State.setSessionState]
@[simp] theorem State.setSessionState_startUp (s : State) (m : Master) (x : SessionState) :
    (s.setSessionState m x).startUp = s.startUp := by
  simp [State.setSessionState]
@[simp] theorem State.setSessionState_pins (s : State) (m : Master) (x : SessionState) :
    (s.setSessionState m x).pins = s.pins := by
  simp [State.setSessionState]
@[simp] theorem State.setSessionState_pending (s : State) (m : Master) (x : SessionState) :
    (s.setSessionState m x).pending = s.pending := by
  simp [State.setSessionState]
@[simp] theorem State.setSessionState_link (s : State) (m : Master) (x : SessionState) (j : Master) :
    (s.setSessionState m x).link j = s.link j := by
  simp [State.link]
@[simp] theorem State.setSessionState_record (s : State) (m : Master) (x : SessionState) (j : RecIdx) :
    (s.setSessionState m x).record j = s.record j := by
  simp [State.record]
@[simp] theorem State.setSessionState_tally (s : State) (m : Master) (x : SessionState) (j : Master) :
    (s.setSessionState m x).tally j = s.tally j := by
  simp [State.tally]
@[simp] theorem State.setSessionState_failureList (s : State) (m : Master) (x : SessionState) (j : Master) :
    (s.setSessionState m x).failureList j = s.failureList j := by
  simp [State.failureList]
@[simp] theorem State.setSessionState_watch (s : State) (m : Master) (x : SessionState) (j : WatchIdx) :
    (s.setSessionState m x).watch j = s.watch j := by
  simp [State.watch]
@[simp] theorem State.setSessionState_notice (s : State) (m : Master) (x : SessionState) (j : Master) :
    (s.setSessionState m x).notice j = s.notice j := by
  simp [State.notice]
@[simp] theorem State.setSessionState_slot (s : State) (m : Master) (x : SessionState) (j : SlotIdx) :
    (s.setSessionState m x).slot j = s.slot j := by
  simp [State.slot]
@[simp] theorem State.setSessionState_mode (s : State) (m : Master) (x : SessionState) :
    (s.setSessionState m x).mode = s.mode := by
  simp [State.mode]
@[simp] theorem State.setSessionState_now (s : State) (m : Master) (x : SessionState) :
    (s.setSessionState m x).now = s.now := by
  simp [State.now]
@[simp] theorem State.setSessionState_after (s : State) (m : Master) (x : SessionState) (n : Nat) :
    (s.setSessionState m x).after n = s.after n := by
  simp [State.after]
@[simp] theorem State.setSessionState_ticksTo (s : State) (m : Master) (x : SessionState) (d : Tick) :
    (s.setSessionState m x).ticksTo d = s.ticksTo d := by
  simp [State.ticksTo]

@[simp] theorem State.endSession_links (s : State) (m : Master) (c : RetireCause) (f : Option FailCause) (x : SessionState) :
    (s.endSession m c f x).links = s.links :=
  by
  simp [State.endSession]
@[simp] theorem State.endSession_clock (s : State) (m : Master) (c : RetireCause) (f : Option FailCause) (x : SessionState) :
    (s.endSession m c f x).clock = s.clock :=
  by
  simp [State.endSession]
@[simp] theorem State.endSession_check (s : State) (m : Master) (c : RetireCause) (f : Option FailCause) (x : SessionState) :
    (s.endSession m c f x).check = s.check :=
  by
  simp [State.endSession]
@[simp] theorem State.endSession_engine (s : State) (m : Master) (c : RetireCause) (f : Option FailCause) (x : SessionState) :
    (s.endSession m c f x).engine = s.engine :=
  by
  simp [State.endSession]
@[simp] theorem State.endSession_band (s : State) (m : Master) (c : RetireCause) (f : Option FailCause) (x : SessionState) :
    (s.endSession m c f x).band = s.band :=
  by
  simp [State.endSession]
@[simp] theorem State.endSession_startUp (s : State) (m : Master) (c : RetireCause) (f : Option FailCause) (x : SessionState) :
    (s.endSession m c f x).startUp = s.startUp :=
  by
  simp [State.endSession]
@[simp] theorem State.endSession_pins (s : State) (m : Master) (c : RetireCause) (f : Option FailCause) (x : SessionState) :
    (s.endSession m c f x).pins = s.pins :=
  by
  simp [State.endSession]
@[simp] theorem State.endSession_pending (s : State) (m : Master) (c : RetireCause) (f : Option FailCause) (x : SessionState) :
    (s.endSession m c f x).pending = s.pending :=
  by
  simp [State.endSession]
@[simp] theorem State.endSession_link (s : State) (m : Master) (c : RetireCause) (f : Option FailCause) (x : SessionState) (j : Master) :
    (s.endSession m c f x).link j = s.link j :=
  by
  simp [State.link]
@[simp] theorem State.endSession_mode (s : State) (m : Master) (c : RetireCause) (f : Option FailCause) (x : SessionState) :
    (s.endSession m c f x).mode = s.mode :=
  by
  simp [State.mode]
@[simp] theorem State.endSession_now (s : State) (m : Master) (c : RetireCause) (f : Option FailCause) (x : SessionState) :
    (s.endSession m c f x).now = s.now :=
  by
  simp [State.now]
@[simp] theorem State.endSession_after (s : State) (m : Master) (c : RetireCause) (f : Option FailCause) (x : SessionState) (n : Nat) :
    (s.endSession m c f x).after n = s.after n :=
  by
  simp [State.after]
@[simp] theorem State.endSession_ticksTo (s : State) (m : Master) (c : RetireCause) (f : Option FailCause) (x : SessionState) (d : Tick) :
    (s.endSession m c f x).ticksTo d = s.ticksTo d :=
  by
  simp [State.ticksTo]

@[simp] theorem State.noticeLapse_links (s : State) (m : Master) : (s.noticeLapse m).links = s.links := by
  unfold State.noticeLapse; split <;> simp
@[simp] theorem State.noticeLapse_table (s : State) (m : Master) : (s.noticeLapse m).table = s.table := by
  unfold State.noticeLapse; split <;> simp
@[simp] theorem State.noticeLapse_tallies (s : State) (m : Master) : (s.noticeLapse m).tallies = s.tallies := by
  unfold State.noticeLapse; split <;> simp
@[simp] theorem State.noticeLapse_sessions (s : State) (m : Master) : (s.noticeLapse m).sessions = s.sessions := by
  unfold State.noticeLapse; split <;> simp
@[simp] theorem State.noticeLapse_queue (s : State) (m : Master) : (s.noticeLapse m).queue = s.queue := by
  unfold State.noticeLapse; split <;> simp
@[simp] theorem State.noticeLapse_failures (s : State) (m : Master) : (s.noticeLapse m).failures = s.failures := by
  unfold State.noticeLapse; split <;> simp
@[simp] theorem State.noticeLapse_clock (s : State) (m : Master) : (s.noticeLapse m).clock = s.clock := by
  unfold State.noticeLapse; split <;> simp
@[simp] theorem State.noticeLapse_check (s : State) (m : Master) : (s.noticeLapse m).check = s.check := by
  unfold State.noticeLapse; split <;> simp
@[simp] theorem State.noticeLapse_watches (s : State) (m : Master) : (s.noticeLapse m).watches = s.watches := by
  unfold State.noticeLapse; split <;> simp
@[simp] theorem State.noticeLapse_slots (s : State) (m : Master) : (s.noticeLapse m).slots = s.slots := by
  unfold State.noticeLapse; split <;> simp
@[simp] theorem State.noticeLapse_engine (s : State) (m : Master) : (s.noticeLapse m).engine = s.engine := by
  unfold State.noticeLapse; split <;> simp
@[simp] theorem State.noticeLapse_band (s : State) (m : Master) : (s.noticeLapse m).band = s.band := by
  unfold State.noticeLapse; split <;> simp
@[simp] theorem State.noticeLapse_startUp (s : State) (m : Master) : (s.noticeLapse m).startUp = s.startUp := by
  unfold State.noticeLapse; split <;> simp
@[simp] theorem State.noticeLapse_pins (s : State) (m : Master) : (s.noticeLapse m).pins = s.pins := by
  unfold State.noticeLapse; split <;> simp
@[simp] theorem State.noticeLapse_pending (s : State) (m : Master) : (s.noticeLapse m).pending = s.pending := by
  unfold State.noticeLapse; split <;> simp
@[simp] theorem State.noticeLapse_link (s : State) (m : Master) (j : Master) :
    (s.noticeLapse m).link j = s.link j := by
  simp [State.link]
@[simp] theorem State.noticeLapse_record (s : State) (m : Master) (j : RecIdx) :
    (s.noticeLapse m).record j = s.record j := by
  simp [State.record]
@[simp] theorem State.noticeLapse_tally (s : State) (m : Master) (j : Master) :
    (s.noticeLapse m).tally j = s.tally j := by
  simp [State.tally]
@[simp] theorem State.noticeLapse_session (s : State) (m : Master) (j : Master) :
    (s.noticeLapse m).session j = s.session j := by
  simp [State.session]
@[simp] theorem State.noticeLapse_failureList (s : State) (m : Master) (j : Master) :
    (s.noticeLapse m).failureList j = s.failureList j := by
  simp [State.failureList]
@[simp] theorem State.noticeLapse_watch (s : State) (m : Master) (j : WatchIdx) :
    (s.noticeLapse m).watch j = s.watch j := by
  simp [State.watch]
@[simp] theorem State.noticeLapse_slot (s : State) (m : Master) (j : SlotIdx) :
    (s.noticeLapse m).slot j = s.slot j := by
  simp [State.slot]
@[simp] theorem State.noticeLapse_mode (s : State) (m : Master) : (s.noticeLapse m).mode = s.mode := by
  simp [State.mode]
@[simp] theorem State.noticeLapse_now (s : State) (m : Master) : (s.noticeLapse m).now = s.now := by
  simp [State.now]
@[simp] theorem State.noticeLapse_after (s : State) (m : Master) (n : Nat) :
    (s.noticeLapse m).after n = s.after n := by
  simp [State.after]
@[simp] theorem State.noticeLapse_ticksTo (s : State) (m : Master) (d : Tick) :
    (s.noticeLapse m).ticksTo d = s.ticksTo d := by
  simp [State.ticksTo]

@[simp] theorem State.lapse_links (s : State) (m : Master) : (s.lapse m).links = s.links := by
  unfold State.lapse; split <;> simp
@[simp] theorem State.lapse_clock (s : State) (m : Master) : (s.lapse m).clock = s.clock := by
  unfold State.lapse; split <;> simp
@[simp] theorem State.lapse_check (s : State) (m : Master) : (s.lapse m).check = s.check := by
  unfold State.lapse; split <;> simp
@[simp] theorem State.lapse_engine (s : State) (m : Master) : (s.lapse m).engine = s.engine := by
  unfold State.lapse; split <;> simp
@[simp] theorem State.lapse_band (s : State) (m : Master) : (s.lapse m).band = s.band := by
  unfold State.lapse; split <;> simp
@[simp] theorem State.lapse_startUp (s : State) (m : Master) : (s.lapse m).startUp = s.startUp := by
  unfold State.lapse; split <;> simp
@[simp] theorem State.lapse_pins (s : State) (m : Master) : (s.lapse m).pins = s.pins := by
  unfold State.lapse; split <;> simp
@[simp] theorem State.lapse_pending (s : State) (m : Master) : (s.lapse m).pending = s.pending := by
  unfold State.lapse; split <;> simp
@[simp] theorem State.lapse_link (s : State) (m : Master) (j : Master) : (s.lapse m).link j = s.link j := by
  simp [State.link]
@[simp] theorem State.lapse_mode (s : State) (m : Master) : (s.lapse m).mode = s.mode := by
  simp [State.mode]
@[simp] theorem State.lapse_now (s : State) (m : Master) : (s.lapse m).now = s.now := by
  simp [State.now]
@[simp] theorem State.lapse_after (s : State) (m : Master) (n : Nat) : (s.lapse m).after n = s.after n := by
  simp [State.after]
@[simp] theorem State.lapse_ticksTo (s : State) (m : Master) (d : Tick) : (s.lapse m).ticksTo d = s.ticksTo d := by
  simp [State.ticksTo]

/-! ### Machine/Claims.lean -/

@[simp] theorem State.markRewriteOf_links (s : State) (w : Window) : (s.markRewriteOf w).links = s.links := by
  unfold State.markRewriteOf; split <;> simp
@[simp] theorem State.markRewriteOf_table (s : State) (w : Window) : (s.markRewriteOf w).table = s.table := by
  unfold State.markRewriteOf; split <;> simp
@[simp] theorem State.markRewriteOf_tallies (s : State) (w : Window) : (s.markRewriteOf w).tallies = s.tallies := by
  unfold State.markRewriteOf; split <;> simp
@[simp] theorem State.markRewriteOf_sessions (s : State) (w : Window) :
    (s.markRewriteOf w).sessions = s.sessions := by
  unfold State.markRewriteOf; split <;> simp
@[simp] theorem State.markRewriteOf_queue (s : State) (w : Window) : (s.markRewriteOf w).queue = s.queue := by
  unfold State.markRewriteOf; split <;> simp
@[simp] theorem State.markRewriteOf_failures (s : State) (w : Window) :
    (s.markRewriteOf w).failures = s.failures := by
  unfold State.markRewriteOf; split <;> simp
@[simp] theorem State.markRewriteOf_clock (s : State) (w : Window) : (s.markRewriteOf w).clock = s.clock := by
  unfold State.markRewriteOf; split <;> simp
@[simp] theorem State.markRewriteOf_check (s : State) (w : Window) : (s.markRewriteOf w).check = s.check := by
  unfold State.markRewriteOf; split <;> simp
@[simp] theorem State.markRewriteOf_watches (s : State) (w : Window) : (s.markRewriteOf w).watches = s.watches := by
  unfold State.markRewriteOf; split <;> simp
@[simp] theorem State.markRewriteOf_notices (s : State) (w : Window) : (s.markRewriteOf w).notices = s.notices := by
  unfold State.markRewriteOf; split <;> simp
@[simp] theorem State.markRewriteOf_engine (s : State) (w : Window) : (s.markRewriteOf w).engine = s.engine := by
  unfold State.markRewriteOf; split <;> simp
@[simp] theorem State.markRewriteOf_band (s : State) (w : Window) : (s.markRewriteOf w).band = s.band := by
  unfold State.markRewriteOf; split <;> simp
@[simp] theorem State.markRewriteOf_startUp (s : State) (w : Window) : (s.markRewriteOf w).startUp = s.startUp := by
  unfold State.markRewriteOf; split <;> simp
@[simp] theorem State.markRewriteOf_pins (s : State) (w : Window) : (s.markRewriteOf w).pins = s.pins := by
  unfold State.markRewriteOf; split <;> simp
@[simp] theorem State.markRewriteOf_pending (s : State) (w : Window) : (s.markRewriteOf w).pending = s.pending := by
  unfold State.markRewriteOf; split <;> simp
@[simp] theorem State.markRewriteOf_link (s : State) (w : Window) (j : Master) :
    (s.markRewriteOf w).link j = s.link j := by
  simp [State.link]
@[simp] theorem State.markRewriteOf_record (s : State) (w : Window) (j : RecIdx) :
    (s.markRewriteOf w).record j = s.record j := by
  simp [State.record]
@[simp] theorem State.markRewriteOf_tally (s : State) (w : Window) (j : Master) :
    (s.markRewriteOf w).tally j = s.tally j := by
  simp [State.tally]
@[simp] theorem State.markRewriteOf_session (s : State) (w : Window) (j : Master) :
    (s.markRewriteOf w).session j = s.session j := by
  simp [State.session]
@[simp] theorem State.markRewriteOf_failureList (s : State) (w : Window) (j : Master) :
    (s.markRewriteOf w).failureList j = s.failureList j := by
  simp [State.failureList]
@[simp] theorem State.markRewriteOf_watch (s : State) (w : Window) (j : WatchIdx) :
    (s.markRewriteOf w).watch j = s.watch j := by
  simp [State.watch]
@[simp] theorem State.markRewriteOf_notice (s : State) (w : Window) (j : Master) :
    (s.markRewriteOf w).notice j = s.notice j := by
  simp [State.notice]
@[simp] theorem State.markRewriteOf_mode (s : State) (w : Window) : (s.markRewriteOf w).mode = s.mode := by
  simp [State.mode]
@[simp] theorem State.markRewriteOf_now (s : State) (w : Window) : (s.markRewriteOf w).now = s.now := by
  simp [State.now]
@[simp] theorem State.markRewriteOf_after (s : State) (w : Window) (n : Nat) :
    (s.markRewriteOf w).after n = s.after n := by
  simp [State.after]
@[simp] theorem State.markRewriteOf_ticksTo (s : State) (w : Window) (d : Tick) :
    (s.markRewriteOf w).ticksTo d = s.ticksTo d := by
  simp [State.ticksTo]

@[simp] theorem State.changeMode_links (s : State) (i : RecIdx) (w : Window) (a : AccessMode) :
    (s.changeMode i w a).links = s.links := by
  simp [State.changeMode]
@[simp] theorem State.changeMode_tallies (s : State) (i : RecIdx) (w : Window) (a : AccessMode) :
    (s.changeMode i w a).tallies = s.tallies := by
  simp [State.changeMode]
@[simp] theorem State.changeMode_sessions (s : State) (i : RecIdx) (w : Window) (a : AccessMode) :
    (s.changeMode i w a).sessions = s.sessions := by
  simp [State.changeMode]
@[simp] theorem State.changeMode_queue (s : State) (i : RecIdx) (w : Window) (a : AccessMode) :
    (s.changeMode i w a).queue = s.queue := by
  simp [State.changeMode]
@[simp] theorem State.changeMode_failures (s : State) (i : RecIdx) (w : Window) (a : AccessMode) :
    (s.changeMode i w a).failures = s.failures := by
  simp [State.changeMode]
@[simp] theorem State.changeMode_clock (s : State) (i : RecIdx) (w : Window) (a : AccessMode) :
    (s.changeMode i w a).clock = s.clock := by
  simp [State.changeMode]
@[simp] theorem State.changeMode_check (s : State) (i : RecIdx) (w : Window) (a : AccessMode) :
    (s.changeMode i w a).check = s.check := by
  simp [State.changeMode]
@[simp] theorem State.changeMode_watches (s : State) (i : RecIdx) (w : Window) (a : AccessMode) :
    (s.changeMode i w a).watches = s.watches := by
  simp [State.changeMode]
@[simp] theorem State.changeMode_notices (s : State) (i : RecIdx) (w : Window) (a : AccessMode) :
    (s.changeMode i w a).notices = s.notices := by
  simp [State.changeMode]
@[simp] theorem State.changeMode_engine (s : State) (i : RecIdx) (w : Window) (a : AccessMode) :
    (s.changeMode i w a).engine = s.engine := by
  simp [State.changeMode]
@[simp] theorem State.changeMode_band (s : State) (i : RecIdx) (w : Window) (a : AccessMode) :
    (s.changeMode i w a).band = s.band := by
  simp [State.changeMode]
@[simp] theorem State.changeMode_startUp (s : State) (i : RecIdx) (w : Window) (a : AccessMode) :
    (s.changeMode i w a).startUp = s.startUp := by
  simp [State.changeMode]
@[simp] theorem State.changeMode_pins (s : State) (i : RecIdx) (w : Window) (a : AccessMode) :
    (s.changeMode i w a).pins = s.pins := by
  simp [State.changeMode]
@[simp] theorem State.changeMode_pending (s : State) (i : RecIdx) (w : Window) (a : AccessMode) :
    (s.changeMode i w a).pending = s.pending := by
  simp [State.changeMode]
@[simp] theorem State.changeMode_link (s : State) (i : RecIdx) (w : Window) (a : AccessMode) (j : Master) :
    (s.changeMode i w a).link j = s.link j := by
  simp [State.link]
@[simp] theorem State.changeMode_tally (s : State) (i : RecIdx) (w : Window) (a : AccessMode) (j : Master) :
    (s.changeMode i w a).tally j = s.tally j := by
  simp [State.tally]
@[simp] theorem State.changeMode_session (s : State) (i : RecIdx) (w : Window) (a : AccessMode) (j : Master) :
    (s.changeMode i w a).session j = s.session j := by
  simp [State.session]
@[simp] theorem State.changeMode_failureList (s : State) (i : RecIdx) (w : Window) (a : AccessMode) (j : Master) :
    (s.changeMode i w a).failureList j = s.failureList j := by
  simp [State.failureList]
@[simp] theorem State.changeMode_watch (s : State) (i : RecIdx) (w : Window) (a : AccessMode) (j : WatchIdx) :
    (s.changeMode i w a).watch j = s.watch j := by
  simp [State.watch]
@[simp] theorem State.changeMode_notice (s : State) (i : RecIdx) (w : Window) (a : AccessMode) (j : Master) :
    (s.changeMode i w a).notice j = s.notice j := by
  simp [State.notice]
@[simp] theorem State.changeMode_mode (s : State) (i : RecIdx) (w : Window) (a : AccessMode) :
    (s.changeMode i w a).mode = s.mode := by
  simp [State.mode]
@[simp] theorem State.changeMode_now (s : State) (i : RecIdx) (w : Window) (a : AccessMode) :
    (s.changeMode i w a).now = s.now := by
  simp [State.now]
@[simp] theorem State.changeMode_after (s : State) (i : RecIdx) (w : Window) (a : AccessMode) (n : Nat) :
    (s.changeMode i w a).after n = s.after n := by
  simp [State.after]
@[simp] theorem State.changeMode_ticksTo (s : State) (i : RecIdx) (w : Window) (a : AccessMode) (d : Tick) :
    (s.changeMode i w a).ticksTo d = s.ticksTo d := by
  simp [State.ticksTo]

/-! ### Machine/Standing.lean -/

@[simp] theorem State.standWindow_links (s : State) (i : RecIdx) (w : Window) (k : SlotIdx) :
    (s.standWindow i w k).links = s.links := by
  simp [State.standWindow]
@[simp] theorem State.standWindow_sessions (s : State) (i : RecIdx) (w : Window) (k : SlotIdx) :
    (s.standWindow i w k).sessions = s.sessions := by
  simp [State.standWindow]
@[simp] theorem State.standWindow_queue (s : State) (i : RecIdx) (w : Window) (k : SlotIdx) :
    (s.standWindow i w k).queue = s.queue := by
  simp [State.standWindow]
@[simp] theorem State.standWindow_failures (s : State) (i : RecIdx) (w : Window) (k : SlotIdx) :
    (s.standWindow i w k).failures = s.failures := by
  simp [State.standWindow]
@[simp] theorem State.standWindow_clock (s : State) (i : RecIdx) (w : Window) (k : SlotIdx) :
    (s.standWindow i w k).clock = s.clock := by
  simp [State.standWindow]
@[simp] theorem State.standWindow_check (s : State) (i : RecIdx) (w : Window) (k : SlotIdx) :
    (s.standWindow i w k).check = s.check := by
  simp [State.standWindow]
@[simp] theorem State.standWindow_watches (s : State) (i : RecIdx) (w : Window) (k : SlotIdx) :
    (s.standWindow i w k).watches = s.watches := by
  simp [State.standWindow]
@[simp] theorem State.standWindow_notices (s : State) (i : RecIdx) (w : Window) (k : SlotIdx) :
    (s.standWindow i w k).notices = s.notices := by
  simp [State.standWindow]
@[simp] theorem State.standWindow_engine (s : State) (i : RecIdx) (w : Window) (k : SlotIdx) :
    (s.standWindow i w k).engine = s.engine := by
  simp [State.standWindow]
@[simp] theorem State.standWindow_band (s : State) (i : RecIdx) (w : Window) (k : SlotIdx) :
    (s.standWindow i w k).band = s.band := by
  simp [State.standWindow]
@[simp] theorem State.standWindow_startUp (s : State) (i : RecIdx) (w : Window) (k : SlotIdx) :
    (s.standWindow i w k).startUp = s.startUp := by
  simp [State.standWindow]
@[simp] theorem State.standWindow_pins (s : State) (i : RecIdx) (w : Window) (k : SlotIdx) :
    (s.standWindow i w k).pins = s.pins := by
  simp [State.standWindow]
@[simp] theorem State.standWindow_pending (s : State) (i : RecIdx) (w : Window) (k : SlotIdx) :
    (s.standWindow i w k).pending = s.pending := by
  simp [State.standWindow]
@[simp] theorem State.standWindow_link (s : State) (i : RecIdx) (w : Window) (k : SlotIdx) (j : Master) :
    (s.standWindow i w k).link j = s.link j := by
  simp [State.link]
@[simp] theorem State.standWindow_session (s : State) (i : RecIdx) (w : Window) (k : SlotIdx) (j : Master) :
    (s.standWindow i w k).session j = s.session j := by
  simp [State.session]
@[simp] theorem State.standWindow_failureList (s : State) (i : RecIdx) (w : Window) (k : SlotIdx) (j : Master) :
    (s.standWindow i w k).failureList j = s.failureList j := by
  simp [State.failureList]
@[simp] theorem State.standWindow_watch (s : State) (i : RecIdx) (w : Window) (k : SlotIdx) (j : WatchIdx) :
    (s.standWindow i w k).watch j = s.watch j := by
  simp [State.watch]
@[simp] theorem State.standWindow_notice (s : State) (i : RecIdx) (w : Window) (k : SlotIdx) (j : Master) :
    (s.standWindow i w k).notice j = s.notice j := by
  simp [State.notice]
@[simp] theorem State.standWindow_mode (s : State) (i : RecIdx) (w : Window) (k : SlotIdx) :
    (s.standWindow i w k).mode = s.mode := by
  simp [State.mode]
@[simp] theorem State.standWindow_now (s : State) (i : RecIdx) (w : Window) (k : SlotIdx) :
    (s.standWindow i w k).now = s.now := by
  simp [State.now]
@[simp] theorem State.standWindow_after (s : State) (i : RecIdx) (w : Window) (k : SlotIdx) (n : Nat) :
    (s.standWindow i w k).after n = s.after n := by
  simp [State.after]
@[simp] theorem State.standWindow_ticksTo (s : State) (i : RecIdx) (w : Window) (k : SlotIdx) (d : Tick) :
    (s.standWindow i w k).ticksTo d = s.ticksTo d := by
  simp [State.ticksTo]

@[simp] theorem State.unstandWindow_links (s : State) (i : RecIdx) (w : Window) (k : SlotIdx) :
    (s.unstandWindow i w k).links = s.links := by
  simp [State.unstandWindow]
@[simp] theorem State.unstandWindow_sessions (s : State) (i : RecIdx) (w : Window) (k : SlotIdx) :
    (s.unstandWindow i w k).sessions = s.sessions := by
  simp [State.unstandWindow]
@[simp] theorem State.unstandWindow_queue (s : State) (i : RecIdx) (w : Window) (k : SlotIdx) :
    (s.unstandWindow i w k).queue = s.queue := by
  simp [State.unstandWindow]
@[simp] theorem State.unstandWindow_failures (s : State) (i : RecIdx) (w : Window) (k : SlotIdx) :
    (s.unstandWindow i w k).failures = s.failures := by
  simp [State.unstandWindow]
@[simp] theorem State.unstandWindow_clock (s : State) (i : RecIdx) (w : Window) (k : SlotIdx) :
    (s.unstandWindow i w k).clock = s.clock := by
  simp [State.unstandWindow]
@[simp] theorem State.unstandWindow_check (s : State) (i : RecIdx) (w : Window) (k : SlotIdx) :
    (s.unstandWindow i w k).check = s.check := by
  simp [State.unstandWindow]
@[simp] theorem State.unstandWindow_watches (s : State) (i : RecIdx) (w : Window) (k : SlotIdx) :
    (s.unstandWindow i w k).watches = s.watches := by
  simp [State.unstandWindow]
@[simp] theorem State.unstandWindow_notices (s : State) (i : RecIdx) (w : Window) (k : SlotIdx) :
    (s.unstandWindow i w k).notices = s.notices := by
  simp [State.unstandWindow]
@[simp] theorem State.unstandWindow_engine (s : State) (i : RecIdx) (w : Window) (k : SlotIdx) :
    (s.unstandWindow i w k).engine = s.engine := by
  simp [State.unstandWindow]
@[simp] theorem State.unstandWindow_band (s : State) (i : RecIdx) (w : Window) (k : SlotIdx) :
    (s.unstandWindow i w k).band = s.band := by
  simp [State.unstandWindow]
@[simp] theorem State.unstandWindow_startUp (s : State) (i : RecIdx) (w : Window) (k : SlotIdx) :
    (s.unstandWindow i w k).startUp = s.startUp := by
  simp [State.unstandWindow]
@[simp] theorem State.unstandWindow_pins (s : State) (i : RecIdx) (w : Window) (k : SlotIdx) :
    (s.unstandWindow i w k).pins = s.pins := by
  simp [State.unstandWindow]
@[simp] theorem State.unstandWindow_pending (s : State) (i : RecIdx) (w : Window) (k : SlotIdx) :
    (s.unstandWindow i w k).pending = s.pending := by
  simp [State.unstandWindow]
@[simp] theorem State.unstandWindow_link (s : State) (i : RecIdx) (w : Window) (k : SlotIdx) (j : Master) :
    (s.unstandWindow i w k).link j = s.link j := by
  simp [State.link]
@[simp] theorem State.unstandWindow_session (s : State) (i : RecIdx) (w : Window) (k : SlotIdx) (j : Master) :
    (s.unstandWindow i w k).session j = s.session j := by
  simp [State.session]
@[simp] theorem State.unstandWindow_failureList (s : State) (i : RecIdx) (w : Window) (k : SlotIdx) (j : Master) :
    (s.unstandWindow i w k).failureList j = s.failureList j := by
  simp [State.failureList]
@[simp] theorem State.unstandWindow_watch (s : State) (i : RecIdx) (w : Window) (k : SlotIdx) (j : WatchIdx) :
    (s.unstandWindow i w k).watch j = s.watch j := by
  simp [State.watch]
@[simp] theorem State.unstandWindow_notice (s : State) (i : RecIdx) (w : Window) (k : SlotIdx) (j : Master) :
    (s.unstandWindow i w k).notice j = s.notice j := by
  simp [State.notice]
@[simp] theorem State.unstandWindow_mode (s : State) (i : RecIdx) (w : Window) (k : SlotIdx) :
    (s.unstandWindow i w k).mode = s.mode := by
  simp [State.mode]
@[simp] theorem State.unstandWindow_now (s : State) (i : RecIdx) (w : Window) (k : SlotIdx) :
    (s.unstandWindow i w k).now = s.now := by
  simp [State.now]
@[simp] theorem State.unstandWindow_after (s : State) (i : RecIdx) (w : Window) (k : SlotIdx) (n : Nat) :
    (s.unstandWindow i w k).after n = s.after n := by
  simp [State.after]
@[simp] theorem State.unstandWindow_ticksTo (s : State) (i : RecIdx) (w : Window) (k : SlotIdx) (d : Tick) :
    (s.unstandWindow i w k).ticksTo d = s.ticksTo d := by
  simp [State.ticksTo]

/-! ### Machine/Supervisor.lean -/

@[simp] theorem State.markRevokedOf_links (s : State) (w : Window) : (s.markRevokedOf w).links = s.links := by
  unfold State.markRevokedOf; split <;> simp
@[simp] theorem State.markRevokedOf_table (s : State) (w : Window) : (s.markRevokedOf w).table = s.table := by
  unfold State.markRevokedOf; split <;> simp
@[simp] theorem State.markRevokedOf_tallies (s : State) (w : Window) : (s.markRevokedOf w).tallies = s.tallies := by
  unfold State.markRevokedOf; split <;> simp
@[simp] theorem State.markRevokedOf_sessions (s : State) (w : Window) :
    (s.markRevokedOf w).sessions = s.sessions := by
  unfold State.markRevokedOf; split <;> simp
@[simp] theorem State.markRevokedOf_queue (s : State) (w : Window) : (s.markRevokedOf w).queue = s.queue := by
  unfold State.markRevokedOf; split <;> simp
@[simp] theorem State.markRevokedOf_failures (s : State) (w : Window) :
    (s.markRevokedOf w).failures = s.failures := by
  unfold State.markRevokedOf; split <;> simp
@[simp] theorem State.markRevokedOf_clock (s : State) (w : Window) : (s.markRevokedOf w).clock = s.clock := by
  unfold State.markRevokedOf; split <;> simp
@[simp] theorem State.markRevokedOf_check (s : State) (w : Window) : (s.markRevokedOf w).check = s.check := by
  unfold State.markRevokedOf; split <;> simp
@[simp] theorem State.markRevokedOf_watches (s : State) (w : Window) : (s.markRevokedOf w).watches = s.watches := by
  unfold State.markRevokedOf; split <;> simp
@[simp] theorem State.markRevokedOf_notices (s : State) (w : Window) : (s.markRevokedOf w).notices = s.notices := by
  unfold State.markRevokedOf; split <;> simp
@[simp] theorem State.markRevokedOf_engine (s : State) (w : Window) : (s.markRevokedOf w).engine = s.engine := by
  unfold State.markRevokedOf; split <;> simp
@[simp] theorem State.markRevokedOf_band (s : State) (w : Window) : (s.markRevokedOf w).band = s.band := by
  unfold State.markRevokedOf; split <;> simp
@[simp] theorem State.markRevokedOf_startUp (s : State) (w : Window) : (s.markRevokedOf w).startUp = s.startUp := by
  unfold State.markRevokedOf; split <;> simp
@[simp] theorem State.markRevokedOf_pins (s : State) (w : Window) : (s.markRevokedOf w).pins = s.pins := by
  unfold State.markRevokedOf; split <;> simp
@[simp] theorem State.markRevokedOf_pending (s : State) (w : Window) : (s.markRevokedOf w).pending = s.pending := by
  unfold State.markRevokedOf; split <;> simp
@[simp] theorem State.markRevokedOf_link (s : State) (w : Window) (j : Master) :
    (s.markRevokedOf w).link j = s.link j := by
  simp [State.link]
@[simp] theorem State.markRevokedOf_record (s : State) (w : Window) (j : RecIdx) :
    (s.markRevokedOf w).record j = s.record j := by
  simp [State.record]
@[simp] theorem State.markRevokedOf_tally (s : State) (w : Window) (j : Master) :
    (s.markRevokedOf w).tally j = s.tally j := by
  simp [State.tally]
@[simp] theorem State.markRevokedOf_session (s : State) (w : Window) (j : Master) :
    (s.markRevokedOf w).session j = s.session j := by
  simp [State.session]
@[simp] theorem State.markRevokedOf_failureList (s : State) (w : Window) (j : Master) :
    (s.markRevokedOf w).failureList j = s.failureList j := by
  simp [State.failureList]
@[simp] theorem State.markRevokedOf_watch (s : State) (w : Window) (j : WatchIdx) :
    (s.markRevokedOf w).watch j = s.watch j := by
  simp [State.watch]
@[simp] theorem State.markRevokedOf_notice (s : State) (w : Window) (j : Master) :
    (s.markRevokedOf w).notice j = s.notice j := by
  simp [State.notice]
@[simp] theorem State.markRevokedOf_mode (s : State) (w : Window) : (s.markRevokedOf w).mode = s.mode := by
  simp [State.mode]
@[simp] theorem State.markRevokedOf_now (s : State) (w : Window) : (s.markRevokedOf w).now = s.now := by
  simp [State.now]
@[simp] theorem State.markRevokedOf_after (s : State) (w : Window) (n : Nat) :
    (s.markRevokedOf w).after n = s.after n := by
  simp [State.after]
@[simp] theorem State.markRevokedOf_ticksTo (s : State) (w : Window) (d : Tick) :
    (s.markRevokedOf w).ticksTo d = s.ticksTo d := by
  simp [State.ticksTo]

/-! ### Machine/Band.lean -/

@[simp] theorem State.setPendingBand_links (s : State) (v : Nat) : (s.setPendingBand v).links = s.links := by
  simp [State.setPendingBand]
@[simp] theorem State.setPendingBand_table (s : State) (v : Nat) : (s.setPendingBand v).table = s.table := by
  simp [State.setPendingBand]
@[simp] theorem State.setPendingBand_tallies (s : State) (v : Nat) : (s.setPendingBand v).tallies = s.tallies := by
  simp [State.setPendingBand]
@[simp] theorem State.setPendingBand_sessions (s : State) (v : Nat) : (s.setPendingBand v).sessions = s.sessions := by
  simp [State.setPendingBand]
@[simp] theorem State.setPendingBand_queue (s : State) (v : Nat) : (s.setPendingBand v).queue = s.queue := by
  simp [State.setPendingBand]
@[simp] theorem State.setPendingBand_failures (s : State) (v : Nat) : (s.setPendingBand v).failures = s.failures := by
  simp [State.setPendingBand]
@[simp] theorem State.setPendingBand_clock (s : State) (v : Nat) : (s.setPendingBand v).clock = s.clock := by
  simp [State.setPendingBand]
@[simp] theorem State.setPendingBand_check (s : State) (v : Nat) : (s.setPendingBand v).check = s.check := by
  simp [State.setPendingBand]
@[simp] theorem State.setPendingBand_watches (s : State) (v : Nat) : (s.setPendingBand v).watches = s.watches := by
  simp [State.setPendingBand]
@[simp] theorem State.setPendingBand_notices (s : State) (v : Nat) : (s.setPendingBand v).notices = s.notices := by
  simp [State.setPendingBand]
@[simp] theorem State.setPendingBand_slots (s : State) (v : Nat) : (s.setPendingBand v).slots = s.slots := by
  simp [State.setPendingBand]
@[simp] theorem State.setPendingBand_engine (s : State) (v : Nat) : (s.setPendingBand v).engine = s.engine := by
  simp [State.setPendingBand]
@[simp] theorem State.setPendingBand_startUp (s : State) (v : Nat) : (s.setPendingBand v).startUp = s.startUp := by
  simp [State.setPendingBand]
@[simp] theorem State.setPendingBand_pins (s : State) (v : Nat) : (s.setPendingBand v).pins = s.pins := by
  simp [State.setPendingBand]
@[simp] theorem State.setPendingBand_pending (s : State) (v : Nat) : (s.setPendingBand v).pending = s.pending := by
  simp [State.setPendingBand]
@[simp] theorem State.setPendingBand_link (s : State) (v : Nat) (j : Master) :
    (s.setPendingBand v).link j = s.link j := by
  simp [State.link]
@[simp] theorem State.setPendingBand_record (s : State) (v : Nat) (j : RecIdx) :
    (s.setPendingBand v).record j = s.record j := by
  simp [State.record]
@[simp] theorem State.setPendingBand_tally (s : State) (v : Nat) (j : Master) :
    (s.setPendingBand v).tally j = s.tally j := by
  simp [State.tally]
@[simp] theorem State.setPendingBand_session (s : State) (v : Nat) (j : Master) :
    (s.setPendingBand v).session j = s.session j := by
  simp [State.session]
@[simp] theorem State.setPendingBand_failureList (s : State) (v : Nat) (j : Master) :
    (s.setPendingBand v).failureList j = s.failureList j := by
  simp [State.failureList]
@[simp] theorem State.setPendingBand_watch (s : State) (v : Nat) (j : WatchIdx) :
    (s.setPendingBand v).watch j = s.watch j := by
  simp [State.watch]
@[simp] theorem State.setPendingBand_notice (s : State) (v : Nat) (j : Master) :
    (s.setPendingBand v).notice j = s.notice j := by
  simp [State.notice]
@[simp] theorem State.setPendingBand_slot (s : State) (v : Nat) (j : SlotIdx) :
    (s.setPendingBand v).slot j = s.slot j := by
  simp [State.slot]
@[simp] theorem State.setPendingBand_mode (s : State) (v : Nat) : (s.setPendingBand v).mode = s.mode := by
  simp [State.mode]
@[simp] theorem State.setPendingBand_now (s : State) (v : Nat) : (s.setPendingBand v).now = s.now := by
  simp [State.now]
@[simp] theorem State.setPendingBand_after (s : State) (v : Nat) (n : Nat) :
    (s.setPendingBand v).after n = s.after n := by
  simp [State.after]
@[simp] theorem State.setPendingBand_ticksTo (s : State) (v : Nat) (d : Tick) :
    (s.setPendingBand v).ticksTo d = s.ticksTo d := by
  simp [State.ticksTo]

theorem foldl_drainWindow_links (s : State) (c : DrainCause) (g : Nat) (l : List RecIdx) :
    (l.foldl (fun t i => t.drainWindow c g i) s).links = s.links := by
  induction l generalizing s with
  | nil => rfl
  | cons i l ih => simp [ih]
theorem foldl_drainWindow_sessions (s : State) (c : DrainCause) (g : Nat) (l : List RecIdx) :
    (l.foldl (fun t i => t.drainWindow c g i) s).sessions = s.sessions := by
  induction l generalizing s with
  | nil => rfl
  | cons i l ih => simp [ih]
theorem foldl_drainWindow_queue (s : State) (c : DrainCause) (g : Nat) (l : List RecIdx) :
    (l.foldl (fun t i => t.drainWindow c g i) s).queue = s.queue := by
  induction l generalizing s with
  | nil => rfl
  | cons i l ih => simp [ih]
theorem foldl_drainWindow_failures (s : State) (c : DrainCause) (g : Nat) (l : List RecIdx) :
    (l.foldl (fun t i => t.drainWindow c g i) s).failures = s.failures := by
  induction l generalizing s with
  | nil => rfl
  | cons i l ih => simp [ih]
theorem foldl_drainWindow_clock (s : State) (c : DrainCause) (g : Nat) (l : List RecIdx) :
    (l.foldl (fun t i => t.drainWindow c g i) s).clock = s.clock := by
  induction l generalizing s with
  | nil => rfl
  | cons i l ih => simp [ih]
theorem foldl_drainWindow_check (s : State) (c : DrainCause) (g : Nat) (l : List RecIdx) :
    (l.foldl (fun t i => t.drainWindow c g i) s).check = s.check := by
  induction l generalizing s with
  | nil => rfl
  | cons i l ih => simp [ih]
theorem foldl_drainWindow_watches (s : State) (c : DrainCause) (g : Nat) (l : List RecIdx) :
    (l.foldl (fun t i => t.drainWindow c g i) s).watches = s.watches := by
  induction l generalizing s with
  | nil => rfl
  | cons i l ih => simp [ih]
theorem foldl_drainWindow_engine (s : State) (c : DrainCause) (g : Nat) (l : List RecIdx) :
    (l.foldl (fun t i => t.drainWindow c g i) s).engine = s.engine := by
  induction l generalizing s with
  | nil => rfl
  | cons i l ih => simp [ih]
theorem foldl_drainWindow_band (s : State) (c : DrainCause) (g : Nat) (l : List RecIdx) :
    (l.foldl (fun t i => t.drainWindow c g i) s).band = s.band := by
  induction l generalizing s with
  | nil => rfl
  | cons i l ih => simp [ih]
theorem foldl_drainWindow_startUp (s : State) (c : DrainCause) (g : Nat) (l : List RecIdx) :
    (l.foldl (fun t i => t.drainWindow c g i) s).startUp = s.startUp := by
  induction l generalizing s with
  | nil => rfl
  | cons i l ih => simp [ih]
theorem foldl_drainWindow_pins (s : State) (c : DrainCause) (g : Nat) (l : List RecIdx) :
    (l.foldl (fun t i => t.drainWindow c g i) s).pins = s.pins := by
  induction l generalizing s with
  | nil => rfl
  | cons i l ih => simp [ih]
theorem foldl_drainWindow_pending (s : State) (c : DrainCause) (g : Nat) (l : List RecIdx) :
    (l.foldl (fun t i => t.drainWindow c g i) s).pending = s.pending := by
  induction l generalizing s with
  | nil => rfl
  | cons i l ih => simp [ih]
@[simp] theorem State.widen_links (s : State) (v g : Nat) : (s.widen v g).links = s.links := by
  unfold State.widen; dsimp only; split <;> simp [foldl_drainWindow_links]
@[simp] theorem State.widen_sessions (s : State) (v g : Nat) : (s.widen v g).sessions = s.sessions := by
  unfold State.widen; dsimp only; split <;> simp [foldl_drainWindow_sessions]
@[simp] theorem State.widen_clock (s : State) (v g : Nat) : (s.widen v g).clock = s.clock := by
  unfold State.widen; dsimp only; split <;> simp [foldl_drainWindow_clock]
@[simp] theorem State.widen_check (s : State) (v g : Nat) : (s.widen v g).check = s.check := by
  unfold State.widen; dsimp only; split <;> simp [foldl_drainWindow_check]
@[simp] theorem State.widen_watches (s : State) (v g : Nat) : (s.widen v g).watches = s.watches := by
  unfold State.widen; dsimp only; split <;> simp [foldl_drainWindow_watches]
@[simp] theorem State.widen_engine (s : State) (v g : Nat) : (s.widen v g).engine = s.engine := by
  unfold State.widen; dsimp only; split <;> simp [foldl_drainWindow_engine]
@[simp] theorem State.widen_band (s : State) (v g : Nat) : (s.widen v g).band = s.band := by
  unfold State.widen; dsimp only; split <;> simp [foldl_drainWindow_band]
@[simp] theorem State.widen_startUp (s : State) (v g : Nat) : (s.widen v g).startUp = s.startUp := by
  unfold State.widen; dsimp only; split <;> simp [foldl_drainWindow_startUp]
@[simp] theorem State.widen_pins (s : State) (v g : Nat) : (s.widen v g).pins = s.pins := by
  unfold State.widen; dsimp only; split <;> simp [foldl_drainWindow_pins]
@[simp] theorem State.widen_pending (s : State) (v g : Nat) : (s.widen v g).pending = s.pending := by
  unfold State.widen; dsimp only; split <;> simp [foldl_drainWindow_pending]
@[simp] theorem State.widen_link (s : State) (v g : Nat) (j : Master) : (s.widen v g).link j = s.link j := by
  simp [State.link]
@[simp] theorem State.widen_session (s : State) (v g : Nat) (j : Master) : (s.widen v g).session j = s.session j := by
  simp [State.session]
@[simp] theorem State.widen_watch (s : State) (v g : Nat) (j : WatchIdx) : (s.widen v g).watch j = s.watch j := by
  simp [State.watch]
@[simp] theorem State.widen_mode (s : State) (v g : Nat) : (s.widen v g).mode = s.mode := by
  simp [State.mode]
@[simp] theorem State.widen_now (s : State) (v g : Nat) : (s.widen v g).now = s.now := by
  simp [State.now]
@[simp] theorem State.widen_after (s : State) (v g : Nat) (n : Nat) : (s.widen v g).after n = s.after n := by
  simp [State.after]
@[simp] theorem State.widen_ticksTo (s : State) (v g : Nat) (d : Tick) : (s.widen v g).ticksTo d = s.ticksTo d := by
  simp [State.ticksTo]

@[simp] theorem State.commitBand_links (s : State) (v : Nat) : (s.commitBand v).links = s.links := by
  simp [State.commitBand]
@[simp] theorem State.commitBand_sessions (s : State) (v : Nat) : (s.commitBand v).sessions = s.sessions := by
  simp [State.commitBand]
@[simp] theorem State.commitBand_clock (s : State) (v : Nat) : (s.commitBand v).clock = s.clock := by
  simp [State.commitBand]
@[simp] theorem State.commitBand_check (s : State) (v : Nat) : (s.commitBand v).check = s.check := by
  simp [State.commitBand]
@[simp] theorem State.commitBand_watches (s : State) (v : Nat) : (s.commitBand v).watches = s.watches := by
  simp [State.commitBand]
@[simp] theorem State.commitBand_engine (s : State) (v : Nat) : (s.commitBand v).engine = s.engine := by
  simp [State.commitBand]
@[simp] theorem State.commitBand_startUp (s : State) (v : Nat) : (s.commitBand v).startUp = s.startUp := by
  simp [State.commitBand]
@[simp] theorem State.commitBand_pins (s : State) (v : Nat) : (s.commitBand v).pins = s.pins := by
  simp [State.commitBand]
@[simp] theorem State.commitBand_pending (s : State) (v : Nat) : (s.commitBand v).pending = s.pending := by
  simp [State.commitBand]
@[simp] theorem State.commitBand_link (s : State) (v : Nat) (j : Master) : (s.commitBand v).link j = s.link j := by
  simp [State.link]
@[simp] theorem State.commitBand_session (s : State) (v : Nat) (j : Master) :
    (s.commitBand v).session j = s.session j := by
  simp [State.session]
@[simp] theorem State.commitBand_watch (s : State) (v : Nat) (j : WatchIdx) :
    (s.commitBand v).watch j = s.watch j := by
  simp [State.watch]
@[simp] theorem State.commitBand_mode (s : State) (v : Nat) : (s.commitBand v).mode = s.mode := by
  simp [State.mode]
@[simp] theorem State.commitBand_now (s : State) (v : Nat) : (s.commitBand v).now = s.now := by
  simp [State.now]
@[simp] theorem State.commitBand_after (s : State) (v : Nat) (n : Nat) : (s.commitBand v).after n = s.after n := by
  simp [State.after]
@[simp] theorem State.commitBand_ticksTo (s : State) (v : Nat) (d : Tick) :
    (s.commitBand v).ticksTo d = s.ticksTo d := by
  simp [State.ticksTo]

/-! ### Machine/Clock.lean -/

@[simp] theorem State.advance_links (s : State) : (s.advance).links = s.links := by
  unfold State.advance; repeat' split
  all_goals simp
@[simp] theorem State.advance_table (s : State) : (s.advance).table = s.table := by
  unfold State.advance; repeat' split
  all_goals simp
@[simp] theorem State.advance_tallies (s : State) : (s.advance).tallies = s.tallies := by
  unfold State.advance; repeat' split
  all_goals simp
@[simp] theorem State.advance_sessions (s : State) : (s.advance).sessions = s.sessions := by
  unfold State.advance; repeat' split
  all_goals simp
@[simp] theorem State.advance_queue (s : State) : (s.advance).queue = s.queue := by
  unfold State.advance; repeat' split
  all_goals simp
@[simp] theorem State.advance_failures (s : State) : (s.advance).failures = s.failures := by
  unfold State.advance; repeat' split
  all_goals simp
@[simp] theorem State.advance_check (s : State) : (s.advance).check = s.check := by
  unfold State.advance; repeat' split
  all_goals simp
@[simp] theorem State.advance_watches (s : State) : (s.advance).watches = s.watches := by
  unfold State.advance; repeat' split
  all_goals simp
@[simp] theorem State.advance_notices (s : State) : (s.advance).notices = s.notices := by
  unfold State.advance; repeat' split
  all_goals simp
@[simp] theorem State.advance_slots (s : State) : (s.advance).slots = s.slots := by
  unfold State.advance; repeat' split
  all_goals simp
@[simp] theorem State.advance_engine (s : State) : (s.advance).engine = s.engine := by
  unfold State.advance; repeat' split
  all_goals simp
@[simp] theorem State.advance_band (s : State) : (s.advance).band = s.band := by
  unfold State.advance; repeat' split
  all_goals simp
@[simp] theorem State.advance_startUp (s : State) : (s.advance).startUp = s.startUp := by
  unfold State.advance; repeat' split
  all_goals simp
@[simp] theorem State.advance_pins (s : State) : (s.advance).pins = s.pins := by
  unfold State.advance; repeat' split
  all_goals simp
@[simp] theorem State.advance_pending (s : State) : (s.advance).pending = s.pending := by
  unfold State.advance; repeat' split
  all_goals simp
@[simp] theorem State.advance_link (s : State) (j : Master) : (s.advance).link j = s.link j := by
  simp [State.link]
@[simp] theorem State.advance_record (s : State) (j : RecIdx) : (s.advance).record j = s.record j := by
  simp [State.record]
@[simp] theorem State.advance_tally (s : State) (j : Master) : (s.advance).tally j = s.tally j := by
  simp [State.tally]
@[simp] theorem State.advance_session (s : State) (j : Master) : (s.advance).session j = s.session j := by
  simp [State.session]
@[simp] theorem State.advance_failureList (s : State) (j : Master) : (s.advance).failureList j = s.failureList j := by
  simp [State.failureList]
@[simp] theorem State.advance_watch (s : State) (j : WatchIdx) : (s.advance).watch j = s.watch j := by
  simp [State.watch]
@[simp] theorem State.advance_notice (s : State) (j : Master) : (s.advance).notice j = s.notice j := by
  simp [State.notice]
@[simp] theorem State.advance_slot (s : State) (j : SlotIdx) : (s.advance).slot j = s.slot j := by
  simp [State.slot]
@[simp] theorem State.advance_mode (s : State) : (s.advance).mode = s.mode := by
  simp [State.mode]

@[simp] theorem State.expireLease_links (s : State) (i : RecIdx) : (s.expireLease i).links = s.links := by
  unfold State.expireLease; split <;> simp
@[simp] theorem State.expireLease_sessions (s : State) (i : RecIdx) : (s.expireLease i).sessions = s.sessions := by
  unfold State.expireLease; split <;> simp
@[simp] theorem State.expireLease_clock (s : State) (i : RecIdx) : (s.expireLease i).clock = s.clock := by
  unfold State.expireLease; split <;> simp
@[simp] theorem State.expireLease_check (s : State) (i : RecIdx) : (s.expireLease i).check = s.check := by
  unfold State.expireLease; split <;> simp
@[simp] theorem State.expireLease_watches (s : State) (i : RecIdx) : (s.expireLease i).watches = s.watches := by
  unfold State.expireLease; split <;> simp
@[simp] theorem State.expireLease_engine (s : State) (i : RecIdx) : (s.expireLease i).engine = s.engine := by
  unfold State.expireLease; split <;> simp
@[simp] theorem State.expireLease_band (s : State) (i : RecIdx) : (s.expireLease i).band = s.band := by
  unfold State.expireLease; split <;> simp
@[simp] theorem State.expireLease_startUp (s : State) (i : RecIdx) : (s.expireLease i).startUp = s.startUp := by
  unfold State.expireLease; split <;> simp
@[simp] theorem State.expireLease_pins (s : State) (i : RecIdx) : (s.expireLease i).pins = s.pins := by
  unfold State.expireLease; split <;> simp
@[simp] theorem State.expireLease_pending (s : State) (i : RecIdx) : (s.expireLease i).pending = s.pending := by
  unfold State.expireLease; split <;> simp
@[simp] theorem State.expireLease_link (s : State) (i : RecIdx) (j : Master) :
    (s.expireLease i).link j = s.link j := by
  simp [State.link]
@[simp] theorem State.expireLease_session (s : State) (i : RecIdx) (j : Master) :
    (s.expireLease i).session j = s.session j := by
  simp [State.session]
@[simp] theorem State.expireLease_watch (s : State) (i : RecIdx) (j : WatchIdx) :
    (s.expireLease i).watch j = s.watch j := by
  simp [State.watch]
@[simp] theorem State.expireLease_mode (s : State) (i : RecIdx) : (s.expireLease i).mode = s.mode := by
  simp [State.mode]
@[simp] theorem State.expireLease_now (s : State) (i : RecIdx) : (s.expireLease i).now = s.now := by
  simp [State.now]
@[simp] theorem State.expireLease_after (s : State) (i : RecIdx) (n : Nat) :
    (s.expireLease i).after n = s.after n := by
  simp [State.after]
@[simp] theorem State.expireLease_ticksTo (s : State) (i : RecIdx) (d : Tick) :
    (s.expireLease i).ticksTo d = s.ticksTo d := by
  simp [State.ticksTo]

@[simp] theorem State.warnLease_links (s : State) (i : RecIdx) : (s.warnLease i).links = s.links := by
  unfold State.warnLease; repeat' split
  all_goals simp
@[simp] theorem State.warnLease_tallies (s : State) (i : RecIdx) : (s.warnLease i).tallies = s.tallies := by
  unfold State.warnLease; repeat' split
  all_goals simp
@[simp] theorem State.warnLease_sessions (s : State) (i : RecIdx) : (s.warnLease i).sessions = s.sessions := by
  unfold State.warnLease; repeat' split
  all_goals simp
@[simp] theorem State.warnLease_queue (s : State) (i : RecIdx) : (s.warnLease i).queue = s.queue := by
  unfold State.warnLease; repeat' split
  all_goals simp
@[simp] theorem State.warnLease_failures (s : State) (i : RecIdx) : (s.warnLease i).failures = s.failures := by
  unfold State.warnLease; repeat' split
  all_goals simp
@[simp] theorem State.warnLease_clock (s : State) (i : RecIdx) : (s.warnLease i).clock = s.clock := by
  unfold State.warnLease; repeat' split
  all_goals simp
@[simp] theorem State.warnLease_check (s : State) (i : RecIdx) : (s.warnLease i).check = s.check := by
  unfold State.warnLease; repeat' split
  all_goals simp
@[simp] theorem State.warnLease_watches (s : State) (i : RecIdx) : (s.warnLease i).watches = s.watches := by
  unfold State.warnLease; repeat' split
  all_goals simp
@[simp] theorem State.warnLease_slots (s : State) (i : RecIdx) : (s.warnLease i).slots = s.slots := by
  unfold State.warnLease; repeat' split
  all_goals simp
@[simp] theorem State.warnLease_engine (s : State) (i : RecIdx) : (s.warnLease i).engine = s.engine := by
  unfold State.warnLease; repeat' split
  all_goals simp
@[simp] theorem State.warnLease_band (s : State) (i : RecIdx) : (s.warnLease i).band = s.band := by
  unfold State.warnLease; repeat' split
  all_goals simp
@[simp] theorem State.warnLease_startUp (s : State) (i : RecIdx) : (s.warnLease i).startUp = s.startUp := by
  unfold State.warnLease; repeat' split
  all_goals simp
@[simp] theorem State.warnLease_pins (s : State) (i : RecIdx) : (s.warnLease i).pins = s.pins := by
  unfold State.warnLease; repeat' split
  all_goals simp
@[simp] theorem State.warnLease_pending (s : State) (i : RecIdx) : (s.warnLease i).pending = s.pending := by
  unfold State.warnLease; repeat' split
  all_goals simp
@[simp] theorem State.warnLease_link (s : State) (i : RecIdx) (j : Master) : (s.warnLease i).link j = s.link j := by
  simp [State.link]
@[simp] theorem State.warnLease_tally (s : State) (i : RecIdx) (j : Master) :
    (s.warnLease i).tally j = s.tally j := by
  simp [State.tally]
@[simp] theorem State.warnLease_session (s : State) (i : RecIdx) (j : Master) :
    (s.warnLease i).session j = s.session j := by
  simp [State.session]
@[simp] theorem State.warnLease_failureList (s : State) (i : RecIdx) (j : Master) :
    (s.warnLease i).failureList j = s.failureList j := by
  simp [State.failureList]
@[simp] theorem State.warnLease_watch (s : State) (i : RecIdx) (j : WatchIdx) :
    (s.warnLease i).watch j = s.watch j := by
  simp [State.watch]
@[simp] theorem State.warnLease_slot (s : State) (i : RecIdx) (j : SlotIdx) : (s.warnLease i).slot j = s.slot j := by
  simp [State.slot]
@[simp] theorem State.warnLease_mode (s : State) (i : RecIdx) : (s.warnLease i).mode = s.mode := by
  simp [State.mode]
@[simp] theorem State.warnLease_now (s : State) (i : RecIdx) : (s.warnLease i).now = s.now := by
  simp [State.now]
@[simp] theorem State.warnLease_after (s : State) (i : RecIdx) (n : Nat) : (s.warnLease i).after n = s.after n := by
  simp [State.after]
@[simp] theorem State.warnLease_ticksTo (s : State) (i : RecIdx) (d : Tick) :
    (s.warnLease i).ticksTo d = s.ticksTo d := by
  simp [State.ticksTo]

@[simp] theorem State.endDrain_links (s : State) (i : RecIdx) : (s.endDrain i).links = s.links := by
  unfold State.endDrain; repeat' split
  all_goals simp
@[simp] theorem State.endDrain_sessions (s : State) (i : RecIdx) : (s.endDrain i).sessions = s.sessions := by
  unfold State.endDrain; repeat' split
  all_goals simp
@[simp] theorem State.endDrain_clock (s : State) (i : RecIdx) : (s.endDrain i).clock = s.clock := by
  unfold State.endDrain; repeat' split
  all_goals simp
@[simp] theorem State.endDrain_check (s : State) (i : RecIdx) : (s.endDrain i).check = s.check := by
  unfold State.endDrain; repeat' split
  all_goals simp
@[simp] theorem State.endDrain_watches (s : State) (i : RecIdx) : (s.endDrain i).watches = s.watches := by
  unfold State.endDrain; repeat' split
  all_goals simp
@[simp] theorem State.endDrain_startUp (s : State) (i : RecIdx) : (s.endDrain i).startUp = s.startUp := by
  unfold State.endDrain; repeat' split
  all_goals simp
@[simp] theorem State.endDrain_pins (s : State) (i : RecIdx) : (s.endDrain i).pins = s.pins := by
  unfold State.endDrain; repeat' split
  all_goals simp
@[simp] theorem State.endDrain_pending (s : State) (i : RecIdx) : (s.endDrain i).pending = s.pending := by
  unfold State.endDrain; repeat' split
  all_goals simp
@[simp] theorem State.endDrain_link (s : State) (i : RecIdx) (j : Master) : (s.endDrain i).link j = s.link j := by
  simp [State.link]
@[simp] theorem State.endDrain_session (s : State) (i : RecIdx) (j : Master) :
    (s.endDrain i).session j = s.session j := by
  simp [State.session]
@[simp] theorem State.endDrain_watch (s : State) (i : RecIdx) (j : WatchIdx) :
    (s.endDrain i).watch j = s.watch j := by
  simp [State.watch]
@[simp] theorem State.endDrain_mode (s : State) (i : RecIdx) : (s.endDrain i).mode = s.mode := by
  simp [State.mode]
@[simp] theorem State.endDrain_now (s : State) (i : RecIdx) : (s.endDrain i).now = s.now := by
  simp [State.now]
@[simp] theorem State.endDrain_after (s : State) (i : RecIdx) (n : Nat) : (s.endDrain i).after n = s.after n := by
  simp [State.after]
@[simp] theorem State.endDrain_ticksTo (s : State) (i : RecIdx) (d : Tick) :
    (s.endDrain i).ticksTo d = s.ticksTo d := by
  simp [State.ticksTo]

/-! ### Machine/Store.lean -/

@[simp] theorem State.noticeStored_links (s : State) (k : SlotIdx) (i : RecIdx) :
    (s.noticeStored k i).links = s.links := by
  unfold State.noticeStored; split
  · cases (s.record i).window <;> simp
  · rfl
@[simp] theorem State.noticeStored_table (s : State) (k : SlotIdx) (i : RecIdx) :
    (s.noticeStored k i).table = s.table := by
  unfold State.noticeStored; split
  · cases (s.record i).window <;> simp
  · rfl
@[simp] theorem State.noticeStored_tallies (s : State) (k : SlotIdx) (i : RecIdx) :
    (s.noticeStored k i).tallies = s.tallies := by
  unfold State.noticeStored; split
  · cases (s.record i).window <;> simp
  · rfl
@[simp] theorem State.noticeStored_sessions (s : State) (k : SlotIdx) (i : RecIdx) :
    (s.noticeStored k i).sessions = s.sessions := by
  unfold State.noticeStored; split
  · cases (s.record i).window <;> simp
  · rfl
@[simp] theorem State.noticeStored_queue (s : State) (k : SlotIdx) (i : RecIdx) :
    (s.noticeStored k i).queue = s.queue := by
  unfold State.noticeStored; split
  · cases (s.record i).window <;> simp
  · rfl
@[simp] theorem State.noticeStored_failures (s : State) (k : SlotIdx) (i : RecIdx) :
    (s.noticeStored k i).failures = s.failures := by
  unfold State.noticeStored; split
  · cases (s.record i).window <;> simp
  · rfl
@[simp] theorem State.noticeStored_clock (s : State) (k : SlotIdx) (i : RecIdx) :
    (s.noticeStored k i).clock = s.clock := by
  unfold State.noticeStored; split
  · cases (s.record i).window <;> simp
  · rfl
@[simp] theorem State.noticeStored_check (s : State) (k : SlotIdx) (i : RecIdx) :
    (s.noticeStored k i).check = s.check := by
  unfold State.noticeStored; split
  · cases (s.record i).window <;> simp
  · rfl
@[simp] theorem State.noticeStored_watches (s : State) (k : SlotIdx) (i : RecIdx) :
    (s.noticeStored k i).watches = s.watches := by
  unfold State.noticeStored; split
  · cases (s.record i).window <;> simp
  · rfl
@[simp] theorem State.noticeStored_slots (s : State) (k : SlotIdx) (i : RecIdx) :
    (s.noticeStored k i).slots = s.slots := by
  unfold State.noticeStored; split
  · cases (s.record i).window <;> simp
  · rfl
@[simp] theorem State.noticeStored_engine (s : State) (k : SlotIdx) (i : RecIdx) :
    (s.noticeStored k i).engine = s.engine := by
  unfold State.noticeStored; split
  · cases (s.record i).window <;> simp
  · rfl
@[simp] theorem State.noticeStored_band (s : State) (k : SlotIdx) (i : RecIdx) :
    (s.noticeStored k i).band = s.band := by
  unfold State.noticeStored; split
  · cases (s.record i).window <;> simp
  · rfl
@[simp] theorem State.noticeStored_startUp (s : State) (k : SlotIdx) (i : RecIdx) :
    (s.noticeStored k i).startUp = s.startUp := by
  unfold State.noticeStored; split
  · cases (s.record i).window <;> simp
  · rfl
@[simp] theorem State.noticeStored_pins (s : State) (k : SlotIdx) (i : RecIdx) :
    (s.noticeStored k i).pins = s.pins := by
  unfold State.noticeStored; split
  · cases (s.record i).window <;> simp
  · rfl
@[simp] theorem State.noticeStored_pending (s : State) (k : SlotIdx) (i : RecIdx) :
    (s.noticeStored k i).pending = s.pending := by
  unfold State.noticeStored; split
  · cases (s.record i).window <;> simp
  · rfl
@[simp] theorem State.noticeStored_link (s : State) (k : SlotIdx) (i : RecIdx) (j : Master) :
    (s.noticeStored k i).link j = s.link j := by
  simp [State.link]
@[simp] theorem State.noticeStored_record (s : State) (k : SlotIdx) (i : RecIdx) (j : RecIdx) :
    (s.noticeStored k i).record j = s.record j := by
  simp [State.record]
@[simp] theorem State.noticeStored_tally (s : State) (k : SlotIdx) (i : RecIdx) (j : Master) :
    (s.noticeStored k i).tally j = s.tally j := by
  simp [State.tally]
@[simp] theorem State.noticeStored_session (s : State) (k : SlotIdx) (i : RecIdx) (j : Master) :
    (s.noticeStored k i).session j = s.session j := by
  simp [State.session]
@[simp] theorem State.noticeStored_failureList (s : State) (k : SlotIdx) (i : RecIdx) (j : Master) :
    (s.noticeStored k i).failureList j = s.failureList j := by
  simp [State.failureList]
@[simp] theorem State.noticeStored_watch (s : State) (k : SlotIdx) (i : RecIdx) (j : WatchIdx) :
    (s.noticeStored k i).watch j = s.watch j := by
  simp [State.watch]
@[simp] theorem State.noticeStored_slot (s : State) (k : SlotIdx) (i : RecIdx) (j : SlotIdx) :
    (s.noticeStored k i).slot j = s.slot j := by
  simp [State.slot]
@[simp] theorem State.noticeStored_mode (s : State) (k : SlotIdx) (i : RecIdx) :
    (s.noticeStored k i).mode = s.mode := by
  simp [State.mode]
@[simp] theorem State.noticeStored_now (s : State) (k : SlotIdx) (i : RecIdx) : (s.noticeStored k i).now = s.now := by
  simp [State.now]
@[simp] theorem State.noticeStored_after (s : State) (k : SlotIdx) (i : RecIdx) (n : Nat) :
    (s.noticeStored k i).after n = s.after n := by
  simp [State.after]
@[simp] theorem State.noticeStored_ticksTo (s : State) (k : SlotIdx) (i : RecIdx) (d : Tick) :
    (s.noticeStored k i).ticksTo d = s.ticksTo d := by
  simp [State.ticksTo]

@[simp] theorem State.slotErased_links (s : State) : (s.slotErased).links = s.links := by
  unfold State.slotErased; split <;> simp
@[simp] theorem State.slotErased_table (s : State) : (s.slotErased).table = s.table := by
  unfold State.slotErased; split <;> simp
@[simp] theorem State.slotErased_tallies (s : State) : (s.slotErased).tallies = s.tallies := by
  unfold State.slotErased; split <;> simp
@[simp] theorem State.slotErased_sessions (s : State) : (s.slotErased).sessions = s.sessions := by
  unfold State.slotErased; split <;> simp
@[simp] theorem State.slotErased_queue (s : State) : (s.slotErased).queue = s.queue := by
  unfold State.slotErased; split <;> simp
@[simp] theorem State.slotErased_failures (s : State) : (s.slotErased).failures = s.failures := by
  unfold State.slotErased; split <;> simp
@[simp] theorem State.slotErased_clock (s : State) : (s.slotErased).clock = s.clock := by
  unfold State.slotErased; split <;> simp
@[simp] theorem State.slotErased_check (s : State) : (s.slotErased).check = s.check := by
  unfold State.slotErased; split <;> simp
@[simp] theorem State.slotErased_watches (s : State) : (s.slotErased).watches = s.watches := by
  unfold State.slotErased; split <;> simp
@[simp] theorem State.slotErased_notices (s : State) : (s.slotErased).notices = s.notices := by
  unfold State.slotErased; split <;> simp
@[simp] theorem State.slotErased_band (s : State) : (s.slotErased).band = s.band := by
  unfold State.slotErased; split <;> simp
@[simp] theorem State.slotErased_startUp (s : State) : (s.slotErased).startUp = s.startUp := by
  unfold State.slotErased; split <;> simp
@[simp] theorem State.slotErased_pins (s : State) : (s.slotErased).pins = s.pins := by
  unfold State.slotErased; split <;> simp
@[simp] theorem State.slotErased_pending (s : State) : (s.slotErased).pending = s.pending := by
  unfold State.slotErased; split <;> simp
@[simp] theorem State.slotErased_link (s : State) (j : Master) : (s.slotErased).link j = s.link j := by
  simp [State.link]
@[simp] theorem State.slotErased_record (s : State) (j : RecIdx) : (s.slotErased).record j = s.record j := by
  simp [State.record]
@[simp] theorem State.slotErased_tally (s : State) (j : Master) : (s.slotErased).tally j = s.tally j := by
  simp [State.tally]
@[simp] theorem State.slotErased_session (s : State) (j : Master) : (s.slotErased).session j = s.session j := by
  simp [State.session]
@[simp] theorem State.slotErased_failureList (s : State) (j : Master) :
    (s.slotErased).failureList j = s.failureList j := by
  simp [State.failureList]
@[simp] theorem State.slotErased_watch (s : State) (j : WatchIdx) : (s.slotErased).watch j = s.watch j := by
  simp [State.watch]
@[simp] theorem State.slotErased_notice (s : State) (j : Master) : (s.slotErased).notice j = s.notice j := by
  simp [State.notice]
@[simp] theorem State.slotErased_mode (s : State) : (s.slotErased).mode = s.mode := by
  simp [State.mode]
@[simp] theorem State.slotErased_now (s : State) : (s.slotErased).now = s.now := by
  simp [State.now]
@[simp] theorem State.slotErased_after (s : State) (n : Nat) : (s.slotErased).after n = s.after n := by
  simp [State.after]
@[simp] theorem State.slotErased_ticksTo (s : State) (d : Tick) : (s.slotErased).ticksTo d = s.ticksTo d := by
  simp [State.ticksTo]

@[simp] theorem State.slotProgrammed_links (s : State) : (s.slotProgrammed).links = s.links := by
  unfold State.slotProgrammed; split <;> simp
@[simp] theorem State.slotProgrammed_table (s : State) : (s.slotProgrammed).table = s.table := by
  unfold State.slotProgrammed; split <;> simp
@[simp] theorem State.slotProgrammed_tallies (s : State) : (s.slotProgrammed).tallies = s.tallies := by
  unfold State.slotProgrammed; split <;> simp
@[simp] theorem State.slotProgrammed_sessions (s : State) : (s.slotProgrammed).sessions = s.sessions := by
  unfold State.slotProgrammed; split <;> simp
@[simp] theorem State.slotProgrammed_queue (s : State) : (s.slotProgrammed).queue = s.queue := by
  unfold State.slotProgrammed; split <;> simp
@[simp] theorem State.slotProgrammed_failures (s : State) : (s.slotProgrammed).failures = s.failures := by
  unfold State.slotProgrammed; split <;> simp
@[simp] theorem State.slotProgrammed_clock (s : State) : (s.slotProgrammed).clock = s.clock := by
  unfold State.slotProgrammed; split <;> simp
@[simp] theorem State.slotProgrammed_check (s : State) : (s.slotProgrammed).check = s.check := by
  unfold State.slotProgrammed; split <;> simp
@[simp] theorem State.slotProgrammed_watches (s : State) : (s.slotProgrammed).watches = s.watches := by
  unfold State.slotProgrammed; split <;> simp
@[simp] theorem State.slotProgrammed_startUp (s : State) : (s.slotProgrammed).startUp = s.startUp := by
  unfold State.slotProgrammed; split <;> simp
@[simp] theorem State.slotProgrammed_pins (s : State) : (s.slotProgrammed).pins = s.pins := by
  unfold State.slotProgrammed; split <;> simp
@[simp] theorem State.slotProgrammed_pending (s : State) : (s.slotProgrammed).pending = s.pending := by
  unfold State.slotProgrammed; split <;> simp
@[simp] theorem State.slotProgrammed_link (s : State) (j : Master) : (s.slotProgrammed).link j = s.link j := by
  simp [State.link]
@[simp] theorem State.slotProgrammed_record (s : State) (j : RecIdx) : (s.slotProgrammed).record j = s.record j := by
  simp [State.record]
@[simp] theorem State.slotProgrammed_tally (s : State) (j : Master) : (s.slotProgrammed).tally j = s.tally j := by
  simp [State.tally]
@[simp] theorem State.slotProgrammed_session (s : State) (j : Master) :
    (s.slotProgrammed).session j = s.session j := by
  simp [State.session]
@[simp] theorem State.slotProgrammed_failureList (s : State) (j : Master) :
    (s.slotProgrammed).failureList j = s.failureList j := by
  simp [State.failureList]
@[simp] theorem State.slotProgrammed_watch (s : State) (j : WatchIdx) : (s.slotProgrammed).watch j = s.watch j := by
  simp [State.watch]
@[simp] theorem State.slotProgrammed_mode (s : State) : (s.slotProgrammed).mode = s.mode := by
  simp [State.mode]
@[simp] theorem State.slotProgrammed_now (s : State) : (s.slotProgrammed).now = s.now := by
  simp [State.now]
@[simp] theorem State.slotProgrammed_after (s : State) (n : Nat) : (s.slotProgrammed).after n = s.after n := by
  simp [State.after]
@[simp] theorem State.slotProgrammed_ticksTo (s : State) (d : Tick) : (s.slotProgrammed).ticksTo d = s.ticksTo d := by
  simp [State.ticksTo]

@[simp] theorem State.slotCleared_links (s : State) : (s.slotCleared).links = s.links := by
  unfold State.slotCleared; split <;> simp
@[simp] theorem State.slotCleared_table (s : State) : (s.slotCleared).table = s.table := by
  unfold State.slotCleared; split <;> simp
@[simp] theorem State.slotCleared_tallies (s : State) : (s.slotCleared).tallies = s.tallies := by
  unfold State.slotCleared; split <;> simp
@[simp] theorem State.slotCleared_sessions (s : State) : (s.slotCleared).sessions = s.sessions := by
  unfold State.slotCleared; split <;> simp
@[simp] theorem State.slotCleared_queue (s : State) : (s.slotCleared).queue = s.queue := by
  unfold State.slotCleared; split <;> simp
@[simp] theorem State.slotCleared_failures (s : State) : (s.slotCleared).failures = s.failures := by
  unfold State.slotCleared; split <;> simp
@[simp] theorem State.slotCleared_clock (s : State) : (s.slotCleared).clock = s.clock := by
  unfold State.slotCleared; split <;> simp
@[simp] theorem State.slotCleared_check (s : State) : (s.slotCleared).check = s.check := by
  unfold State.slotCleared; split <;> simp
@[simp] theorem State.slotCleared_watches (s : State) : (s.slotCleared).watches = s.watches := by
  unfold State.slotCleared; split <;> simp
@[simp] theorem State.slotCleared_notices (s : State) : (s.slotCleared).notices = s.notices := by
  unfold State.slotCleared; split <;> simp
@[simp] theorem State.slotCleared_startUp (s : State) : (s.slotCleared).startUp = s.startUp := by
  unfold State.slotCleared; split <;> simp
@[simp] theorem State.slotCleared_pins (s : State) : (s.slotCleared).pins = s.pins := by
  unfold State.slotCleared; split <;> simp
@[simp] theorem State.slotCleared_pending (s : State) : (s.slotCleared).pending = s.pending := by
  unfold State.slotCleared; split <;> simp
@[simp] theorem State.slotCleared_link (s : State) (j : Master) : (s.slotCleared).link j = s.link j := by
  simp [State.link]
@[simp] theorem State.slotCleared_record (s : State) (j : RecIdx) : (s.slotCleared).record j = s.record j := by
  simp [State.record]
@[simp] theorem State.slotCleared_tally (s : State) (j : Master) : (s.slotCleared).tally j = s.tally j := by
  simp [State.tally]
@[simp] theorem State.slotCleared_session (s : State) (j : Master) : (s.slotCleared).session j = s.session j := by
  simp [State.session]
@[simp] theorem State.slotCleared_failureList (s : State) (j : Master) :
    (s.slotCleared).failureList j = s.failureList j := by
  simp [State.failureList]
@[simp] theorem State.slotCleared_watch (s : State) (j : WatchIdx) : (s.slotCleared).watch j = s.watch j := by
  simp [State.watch]
@[simp] theorem State.slotCleared_notice (s : State) (j : Master) : (s.slotCleared).notice j = s.notice j := by
  simp [State.notice]
@[simp] theorem State.slotCleared_mode (s : State) : (s.slotCleared).mode = s.mode := by
  simp [State.mode]
@[simp] theorem State.slotCleared_now (s : State) : (s.slotCleared).now = s.now := by
  simp [State.now]
@[simp] theorem State.slotCleared_after (s : State) (n : Nat) : (s.slotCleared).after n = s.after n := by
  simp [State.after]
@[simp] theorem State.slotCleared_ticksTo (s : State) (d : Tick) : (s.slotCleared).ticksTo d = s.ticksTo d := by
  simp [State.ticksTo]

@[simp] theorem State.loseRetention_links (s : State) (k : SlotIdx) (x : Image) :
    (s.loseRetention k x).links = s.links := by
  unfold State.loseRetention; split <;> simp
@[simp] theorem State.loseRetention_table (s : State) (k : SlotIdx) (x : Image) :
    (s.loseRetention k x).table = s.table := by
  unfold State.loseRetention; split <;> simp
@[simp] theorem State.loseRetention_tallies (s : State) (k : SlotIdx) (x : Image) :
    (s.loseRetention k x).tallies = s.tallies := by
  unfold State.loseRetention; split <;> simp
@[simp] theorem State.loseRetention_sessions (s : State) (k : SlotIdx) (x : Image) :
    (s.loseRetention k x).sessions = s.sessions := by
  unfold State.loseRetention; split <;> simp
@[simp] theorem State.loseRetention_queue (s : State) (k : SlotIdx) (x : Image) :
    (s.loseRetention k x).queue = s.queue := by
  unfold State.loseRetention; split <;> simp
@[simp] theorem State.loseRetention_failures (s : State) (k : SlotIdx) (x : Image) :
    (s.loseRetention k x).failures = s.failures := by
  unfold State.loseRetention; split <;> simp
@[simp] theorem State.loseRetention_clock (s : State) (k : SlotIdx) (x : Image) :
    (s.loseRetention k x).clock = s.clock := by
  unfold State.loseRetention; split <;> simp
@[simp] theorem State.loseRetention_check (s : State) (k : SlotIdx) (x : Image) :
    (s.loseRetention k x).check = s.check := by
  unfold State.loseRetention; split <;> simp
@[simp] theorem State.loseRetention_watches (s : State) (k : SlotIdx) (x : Image) :
    (s.loseRetention k x).watches = s.watches := by
  unfold State.loseRetention; split <;> simp
@[simp] theorem State.loseRetention_notices (s : State) (k : SlotIdx) (x : Image) :
    (s.loseRetention k x).notices = s.notices := by
  unfold State.loseRetention; split <;> simp
@[simp] theorem State.loseRetention_engine (s : State) (k : SlotIdx) (x : Image) :
    (s.loseRetention k x).engine = s.engine := by
  unfold State.loseRetention; split <;> simp
@[simp] theorem State.loseRetention_band (s : State) (k : SlotIdx) (x : Image) :
    (s.loseRetention k x).band = s.band := by
  unfold State.loseRetention; split <;> simp
@[simp] theorem State.loseRetention_startUp (s : State) (k : SlotIdx) (x : Image) :
    (s.loseRetention k x).startUp = s.startUp := by
  unfold State.loseRetention; split <;> simp
@[simp] theorem State.loseRetention_pins (s : State) (k : SlotIdx) (x : Image) :
    (s.loseRetention k x).pins = s.pins := by
  unfold State.loseRetention; split <;> simp
@[simp] theorem State.loseRetention_pending (s : State) (k : SlotIdx) (x : Image) :
    (s.loseRetention k x).pending = s.pending := by
  unfold State.loseRetention; split <;> simp
@[simp] theorem State.loseRetention_link (s : State) (k : SlotIdx) (x : Image) (j : Master) :
    (s.loseRetention k x).link j = s.link j := by
  simp [State.link]
@[simp] theorem State.loseRetention_record (s : State) (k : SlotIdx) (x : Image) (j : RecIdx) :
    (s.loseRetention k x).record j = s.record j := by
  simp [State.record]
@[simp] theorem State.loseRetention_tally (s : State) (k : SlotIdx) (x : Image) (j : Master) :
    (s.loseRetention k x).tally j = s.tally j := by
  simp [State.tally]
@[simp] theorem State.loseRetention_session (s : State) (k : SlotIdx) (x : Image) (j : Master) :
    (s.loseRetention k x).session j = s.session j := by
  simp [State.session]
@[simp] theorem State.loseRetention_failureList (s : State) (k : SlotIdx) (x : Image) (j : Master) :
    (s.loseRetention k x).failureList j = s.failureList j := by
  simp [State.failureList]
@[simp] theorem State.loseRetention_watch (s : State) (k : SlotIdx) (x : Image) (j : WatchIdx) :
    (s.loseRetention k x).watch j = s.watch j := by
  simp [State.watch]
@[simp] theorem State.loseRetention_notice (s : State) (k : SlotIdx) (x : Image) (j : Master) :
    (s.loseRetention k x).notice j = s.notice j := by
  simp [State.notice]
@[simp] theorem State.loseRetention_mode (s : State) (k : SlotIdx) (x : Image) :
    (s.loseRetention k x).mode = s.mode := by
  simp [State.mode]
@[simp] theorem State.loseRetention_now (s : State) (k : SlotIdx) (x : Image) :
    (s.loseRetention k x).now = s.now := by
  simp [State.now]
@[simp] theorem State.loseRetention_after (s : State) (k : SlotIdx) (x : Image) (n : Nat) :
    (s.loseRetention k x).after n = s.after n := by
  simp [State.after]
@[simp] theorem State.loseRetention_ticksTo (s : State) (k : SlotIdx) (x : Image) (d : Tick) :
    (s.loseRetention k x).ticksTo d = s.ticksTo d := by
  simp [State.ticksTo]

/-! ### Machine/Check.lean -/

@[simp] theorem State.touch_links (s : State) (v : Verdict) : (s.touch v).links = s.links := by
  cases v with
  | allowWindow i => simp only [State.touch]; cases (s.record i).window <;> simp
  | allowBand => rfl
  | deny r n => rfl
@[simp] theorem State.touch_tallies (s : State) (v : Verdict) : (s.touch v).tallies = s.tallies := by
  cases v with
  | allowWindow i => simp only [State.touch]; cases (s.record i).window <;> simp
  | allowBand => rfl
  | deny r n => rfl
@[simp] theorem State.touch_sessions (s : State) (v : Verdict) : (s.touch v).sessions = s.sessions := by
  cases v with
  | allowWindow i => simp only [State.touch]; cases (s.record i).window <;> simp
  | allowBand => rfl
  | deny r n => rfl
@[simp] theorem State.touch_queue (s : State) (v : Verdict) : (s.touch v).queue = s.queue := by
  cases v with
  | allowWindow i => simp only [State.touch]; cases (s.record i).window <;> simp
  | allowBand => rfl
  | deny r n => rfl
@[simp] theorem State.touch_failures (s : State) (v : Verdict) : (s.touch v).failures = s.failures := by
  cases v with
  | allowWindow i => simp only [State.touch]; cases (s.record i).window <;> simp
  | allowBand => rfl
  | deny r n => rfl
@[simp] theorem State.touch_clock (s : State) (v : Verdict) : (s.touch v).clock = s.clock := by
  cases v with
  | allowWindow i => simp only [State.touch]; cases (s.record i).window <;> simp
  | allowBand => rfl
  | deny r n => rfl
@[simp] theorem State.touch_check (s : State) (v : Verdict) : (s.touch v).check = s.check := by
  cases v with
  | allowWindow i => simp only [State.touch]; cases (s.record i).window <;> simp
  | allowBand => rfl
  | deny r n => rfl
@[simp] theorem State.touch_watches (s : State) (v : Verdict) : (s.touch v).watches = s.watches := by
  cases v with
  | allowWindow i => simp only [State.touch]; cases (s.record i).window <;> simp
  | allowBand => rfl
  | deny r n => rfl
@[simp] theorem State.touch_notices (s : State) (v : Verdict) : (s.touch v).notices = s.notices := by
  cases v with
  | allowWindow i => simp only [State.touch]; cases (s.record i).window <;> simp
  | allowBand => rfl
  | deny r n => rfl
@[simp] theorem State.touch_slots (s : State) (v : Verdict) : (s.touch v).slots = s.slots := by
  cases v with
  | allowWindow i => simp only [State.touch]; cases (s.record i).window <;> simp
  | allowBand => rfl
  | deny r n => rfl
@[simp] theorem State.touch_engine (s : State) (v : Verdict) : (s.touch v).engine = s.engine := by
  cases v with
  | allowWindow i => simp only [State.touch]; cases (s.record i).window <;> simp
  | allowBand => rfl
  | deny r n => rfl
@[simp] theorem State.touch_band (s : State) (v : Verdict) : (s.touch v).band = s.band := by
  cases v with
  | allowWindow i => simp only [State.touch]; cases (s.record i).window <;> simp
  | allowBand => rfl
  | deny r n => rfl
@[simp] theorem State.touch_startUp (s : State) (v : Verdict) : (s.touch v).startUp = s.startUp := by
  cases v with
  | allowWindow i => simp only [State.touch]; cases (s.record i).window <;> simp
  | allowBand => rfl
  | deny r n => rfl
@[simp] theorem State.touch_pins (s : State) (v : Verdict) : (s.touch v).pins = s.pins := by
  cases v with
  | allowWindow i => simp only [State.touch]; cases (s.record i).window <;> simp
  | allowBand => rfl
  | deny r n => rfl
@[simp] theorem State.touch_pending (s : State) (v : Verdict) : (s.touch v).pending = s.pending := by
  cases v with
  | allowWindow i => simp only [State.touch]; cases (s.record i).window <;> simp
  | allowBand => rfl
  | deny r n => rfl
@[simp] theorem State.touch_link (s : State) (v : Verdict) (j : Master) : (s.touch v).link j = s.link j := by
  simp [State.link]
@[simp] theorem State.touch_tally (s : State) (v : Verdict) (j : Master) : (s.touch v).tally j = s.tally j := by
  simp [State.tally]
@[simp] theorem State.touch_session (s : State) (v : Verdict) (j : Master) : (s.touch v).session j = s.session j := by
  simp [State.session]
@[simp] theorem State.touch_failureList (s : State) (v : Verdict) (j : Master) :
    (s.touch v).failureList j = s.failureList j := by
  simp [State.failureList]
@[simp] theorem State.touch_watch (s : State) (v : Verdict) (j : WatchIdx) : (s.touch v).watch j = s.watch j := by
  simp [State.watch]
@[simp] theorem State.touch_notice (s : State) (v : Verdict) (j : Master) : (s.touch v).notice j = s.notice j := by
  simp [State.notice]
@[simp] theorem State.touch_slot (s : State) (v : Verdict) (j : SlotIdx) : (s.touch v).slot j = s.slot j := by
  simp [State.slot]
@[simp] theorem State.touch_mode (s : State) (v : Verdict) : (s.touch v).mode = s.mode := by
  simp [State.mode]
@[simp] theorem State.touch_now (s : State) (v : Verdict) : (s.touch v).now = s.now := by
  simp [State.now]
@[simp] theorem State.touch_after (s : State) (v : Verdict) (n : Nat) : (s.touch v).after n = s.after n := by
  simp [State.after]
@[simp] theorem State.touch_ticksTo (s : State) (v : Verdict) (d : Tick) : (s.touch v).ticksTo d = s.ticksTo d := by
  simp [State.ticksTo]

@[simp] theorem State.captureDenial_links (s : State) (m : Master) (a : Access) (v : Verdict) :
    (s.captureDenial m a v).links = s.links := by
  unfold State.captureDenial; repeat' split
  all_goals simp
@[simp] theorem State.captureDenial_table (s : State) (m : Master) (a : Access) (v : Verdict) :
    (s.captureDenial m a v).table = s.table := by
  unfold State.captureDenial; repeat' split
  all_goals simp
@[simp] theorem State.captureDenial_tallies (s : State) (m : Master) (a : Access) (v : Verdict) :
    (s.captureDenial m a v).tallies = s.tallies := by
  unfold State.captureDenial; repeat' split
  all_goals simp
@[simp] theorem State.captureDenial_sessions (s : State) (m : Master) (a : Access) (v : Verdict) :
    (s.captureDenial m a v).sessions = s.sessions := by
  unfold State.captureDenial; repeat' split
  all_goals simp
@[simp] theorem State.captureDenial_queue (s : State) (m : Master) (a : Access) (v : Verdict) :
    (s.captureDenial m a v).queue = s.queue := by
  unfold State.captureDenial; repeat' split
  all_goals simp
@[simp] theorem State.captureDenial_failures (s : State) (m : Master) (a : Access) (v : Verdict) :
    (s.captureDenial m a v).failures = s.failures := by
  unfold State.captureDenial; repeat' split
  all_goals simp
@[simp] theorem State.captureDenial_clock (s : State) (m : Master) (a : Access) (v : Verdict) :
    (s.captureDenial m a v).clock = s.clock := by
  unfold State.captureDenial; repeat' split
  all_goals simp
@[simp] theorem State.captureDenial_check (s : State) (m : Master) (a : Access) (v : Verdict) :
    (s.captureDenial m a v).check = s.check := by
  unfold State.captureDenial; repeat' split
  all_goals simp
@[simp] theorem State.captureDenial_watches (s : State) (m : Master) (a : Access) (v : Verdict) :
    (s.captureDenial m a v).watches = s.watches := by
  unfold State.captureDenial; repeat' split
  all_goals simp
@[simp] theorem State.captureDenial_slots (s : State) (m : Master) (a : Access) (v : Verdict) :
    (s.captureDenial m a v).slots = s.slots := by
  unfold State.captureDenial; repeat' split
  all_goals simp
@[simp] theorem State.captureDenial_engine (s : State) (m : Master) (a : Access) (v : Verdict) :
    (s.captureDenial m a v).engine = s.engine := by
  unfold State.captureDenial; repeat' split
  all_goals simp
@[simp] theorem State.captureDenial_band (s : State) (m : Master) (a : Access) (v : Verdict) :
    (s.captureDenial m a v).band = s.band := by
  unfold State.captureDenial; repeat' split
  all_goals simp
@[simp] theorem State.captureDenial_startUp (s : State) (m : Master) (a : Access) (v : Verdict) :
    (s.captureDenial m a v).startUp = s.startUp := by
  unfold State.captureDenial; repeat' split
  all_goals simp
@[simp] theorem State.captureDenial_pins (s : State) (m : Master) (a : Access) (v : Verdict) :
    (s.captureDenial m a v).pins = s.pins := by
  unfold State.captureDenial; repeat' split
  all_goals simp
@[simp] theorem State.captureDenial_pending (s : State) (m : Master) (a : Access) (v : Verdict) :
    (s.captureDenial m a v).pending = s.pending := by
  unfold State.captureDenial; repeat' split
  all_goals simp
@[simp] theorem State.captureDenial_link (s : State) (m : Master) (a : Access) (v : Verdict) (j : Master) :
    (s.captureDenial m a v).link j = s.link j := by
  simp [State.link]
@[simp] theorem State.captureDenial_record (s : State) (m : Master) (a : Access) (v : Verdict) (j : RecIdx) :
    (s.captureDenial m a v).record j = s.record j := by
  simp [State.record]
@[simp] theorem State.captureDenial_tally (s : State) (m : Master) (a : Access) (v : Verdict) (j : Master) :
    (s.captureDenial m a v).tally j = s.tally j := by
  simp [State.tally]
@[simp] theorem State.captureDenial_session (s : State) (m : Master) (a : Access) (v : Verdict) (j : Master) :
    (s.captureDenial m a v).session j = s.session j := by
  simp [State.session]
@[simp] theorem State.captureDenial_failureList (s : State) (m : Master) (a : Access) (v : Verdict) (j : Master) :
    (s.captureDenial m a v).failureList j = s.failureList j := by
  simp [State.failureList]
@[simp] theorem State.captureDenial_watch (s : State) (m : Master) (a : Access) (v : Verdict) (j : WatchIdx) :
    (s.captureDenial m a v).watch j = s.watch j := by
  simp [State.watch]
@[simp] theorem State.captureDenial_slot (s : State) (m : Master) (a : Access) (v : Verdict) (j : SlotIdx) :
    (s.captureDenial m a v).slot j = s.slot j := by
  simp [State.slot]
@[simp] theorem State.captureDenial_mode (s : State) (m : Master) (a : Access) (v : Verdict) :
    (s.captureDenial m a v).mode = s.mode := by
  simp [State.mode]
@[simp] theorem State.captureDenial_now (s : State) (m : Master) (a : Access) (v : Verdict) :
    (s.captureDenial m a v).now = s.now := by
  simp [State.now]
@[simp] theorem State.captureDenial_after (s : State) (m : Master) (a : Access) (v : Verdict) (n : Nat) :
    (s.captureDenial m a v).after n = s.after n := by
  simp [State.after]
@[simp] theorem State.captureDenial_ticksTo (s : State) (m : Master) (a : Access) (v : Verdict) (d : Tick) :
    (s.captureDenial m a v).ticksTo d = s.ticksTo d := by
  simp [State.ticksTo]

@[simp] theorem State.hitWatch_links (s : State) (m : Master) (a : Access) (v : Verdict) (k : WatchIdx) :
    (s.hitWatch m a v k).links = s.links := by
  unfold State.hitWatch; repeat' split
  all_goals simp
@[simp] theorem State.hitWatch_table (s : State) (m : Master) (a : Access) (v : Verdict) (k : WatchIdx) :
    (s.hitWatch m a v k).table = s.table := by
  unfold State.hitWatch; repeat' split
  all_goals simp
@[simp] theorem State.hitWatch_tallies (s : State) (m : Master) (a : Access) (v : Verdict) (k : WatchIdx) :
    (s.hitWatch m a v k).tallies = s.tallies := by
  unfold State.hitWatch; repeat' split
  all_goals simp
@[simp] theorem State.hitWatch_sessions (s : State) (m : Master) (a : Access) (v : Verdict) (k : WatchIdx) :
    (s.hitWatch m a v k).sessions = s.sessions := by
  unfold State.hitWatch; repeat' split
  all_goals simp
@[simp] theorem State.hitWatch_queue (s : State) (m : Master) (a : Access) (v : Verdict) (k : WatchIdx) :
    (s.hitWatch m a v k).queue = s.queue := by
  unfold State.hitWatch; repeat' split
  all_goals simp
@[simp] theorem State.hitWatch_failures (s : State) (m : Master) (a : Access) (v : Verdict) (k : WatchIdx) :
    (s.hitWatch m a v k).failures = s.failures := by
  unfold State.hitWatch; repeat' split
  all_goals simp
@[simp] theorem State.hitWatch_clock (s : State) (m : Master) (a : Access) (v : Verdict) (k : WatchIdx) :
    (s.hitWatch m a v k).clock = s.clock := by
  unfold State.hitWatch; repeat' split
  all_goals simp
@[simp] theorem State.hitWatch_check (s : State) (m : Master) (a : Access) (v : Verdict) (k : WatchIdx) :
    (s.hitWatch m a v k).check = s.check := by
  unfold State.hitWatch; repeat' split
  all_goals simp
@[simp] theorem State.hitWatch_slots (s : State) (m : Master) (a : Access) (v : Verdict) (k : WatchIdx) :
    (s.hitWatch m a v k).slots = s.slots := by
  unfold State.hitWatch; repeat' split
  all_goals simp
@[simp] theorem State.hitWatch_engine (s : State) (m : Master) (a : Access) (v : Verdict) (k : WatchIdx) :
    (s.hitWatch m a v k).engine = s.engine := by
  unfold State.hitWatch; repeat' split
  all_goals simp
@[simp] theorem State.hitWatch_band (s : State) (m : Master) (a : Access) (v : Verdict) (k : WatchIdx) :
    (s.hitWatch m a v k).band = s.band := by
  unfold State.hitWatch; repeat' split
  all_goals simp
@[simp] theorem State.hitWatch_startUp (s : State) (m : Master) (a : Access) (v : Verdict) (k : WatchIdx) :
    (s.hitWatch m a v k).startUp = s.startUp := by
  unfold State.hitWatch; repeat' split
  all_goals simp
@[simp] theorem State.hitWatch_pins (s : State) (m : Master) (a : Access) (v : Verdict) (k : WatchIdx) :
    (s.hitWatch m a v k).pins = s.pins := by
  unfold State.hitWatch; repeat' split
  all_goals simp
@[simp] theorem State.hitWatch_pending (s : State) (m : Master) (a : Access) (v : Verdict) (k : WatchIdx) :
    (s.hitWatch m a v k).pending = s.pending := by
  unfold State.hitWatch; repeat' split
  all_goals simp
@[simp] theorem State.hitWatch_link (s : State) (m : Master) (a : Access) (v : Verdict) (k : WatchIdx) (j : Master) :
    (s.hitWatch m a v k).link j = s.link j := by
  simp [State.link]
@[simp] theorem State.hitWatch_record (s : State) (m : Master) (a : Access) (v : Verdict) (k : WatchIdx) (j : RecIdx) :
    (s.hitWatch m a v k).record j = s.record j :=
  by
  simp [State.record]
@[simp] theorem State.hitWatch_tally (s : State) (m : Master) (a : Access) (v : Verdict) (k : WatchIdx) (j : Master) :
    (s.hitWatch m a v k).tally j = s.tally j := by
  simp [State.tally]
@[simp] theorem State.hitWatch_session (s : State) (m : Master) (a : Access) (v : Verdict) (k : WatchIdx) (j : Master) :
    (s.hitWatch m a v k).session j = s.session j :=
  by
  simp [State.session]
@[simp] theorem State.hitWatch_failureList (s : State) (m : Master) (a : Access) (v : Verdict) (k : WatchIdx) (j : Master) :
    (s.hitWatch m a v k).failureList j = s.failureList j :=
  by
  simp [State.failureList]
@[simp] theorem State.hitWatch_slot (s : State) (m : Master) (a : Access) (v : Verdict) (k : WatchIdx) (j : SlotIdx) :
    (s.hitWatch m a v k).slot j = s.slot j := by
  simp [State.slot]
@[simp] theorem State.hitWatch_mode (s : State) (m : Master) (a : Access) (v : Verdict) (k : WatchIdx) :
    (s.hitWatch m a v k).mode = s.mode := by
  simp [State.mode]
@[simp] theorem State.hitWatch_now (s : State) (m : Master) (a : Access) (v : Verdict) (k : WatchIdx) :
    (s.hitWatch m a v k).now = s.now := by
  simp [State.now]
@[simp] theorem State.hitWatch_after (s : State) (m : Master) (a : Access) (v : Verdict) (k : WatchIdx) (n : Nat) :
    (s.hitWatch m a v k).after n = s.after n := by
  simp [State.after]
@[simp] theorem State.hitWatch_ticksTo (s : State) (m : Master) (a : Access) (v : Verdict) (k : WatchIdx) (d : Tick) :
    (s.hitWatch m a v k).ticksTo d = s.ticksTo d := by
  simp [State.ticksTo]

theorem foldl_hitWatch_links (s : State) (m : Master) (a : Access) (v : Verdict) (l : List WatchIdx) :
    (l.foldl (fun t k => t.hitWatch m a v k) s).links = s.links := by
  induction l generalizing s with
  | nil => rfl
  | cons k l ih => simp [ih]
theorem foldl_hitWatch_table (s : State) (m : Master) (a : Access) (v : Verdict) (l : List WatchIdx) :
    (l.foldl (fun t k => t.hitWatch m a v k) s).table = s.table := by
  induction l generalizing s with
  | nil => rfl
  | cons k l ih => simp [ih]
theorem foldl_hitWatch_tallies (s : State) (m : Master) (a : Access) (v : Verdict) (l : List WatchIdx) :
    (l.foldl (fun t k => t.hitWatch m a v k) s).tallies = s.tallies := by
  induction l generalizing s with
  | nil => rfl
  | cons k l ih => simp [ih]
theorem foldl_hitWatch_sessions (s : State) (m : Master) (a : Access) (v : Verdict) (l : List WatchIdx) :
    (l.foldl (fun t k => t.hitWatch m a v k) s).sessions = s.sessions := by
  induction l generalizing s with
  | nil => rfl
  | cons k l ih => simp [ih]
theorem foldl_hitWatch_queue (s : State) (m : Master) (a : Access) (v : Verdict) (l : List WatchIdx) :
    (l.foldl (fun t k => t.hitWatch m a v k) s).queue = s.queue := by
  induction l generalizing s with
  | nil => rfl
  | cons k l ih => simp [ih]
theorem foldl_hitWatch_failures (s : State) (m : Master) (a : Access) (v : Verdict) (l : List WatchIdx) :
    (l.foldl (fun t k => t.hitWatch m a v k) s).failures = s.failures := by
  induction l generalizing s with
  | nil => rfl
  | cons k l ih => simp [ih]
theorem foldl_hitWatch_clock (s : State) (m : Master) (a : Access) (v : Verdict) (l : List WatchIdx) :
    (l.foldl (fun t k => t.hitWatch m a v k) s).clock = s.clock := by
  induction l generalizing s with
  | nil => rfl
  | cons k l ih => simp [ih]
theorem foldl_hitWatch_check (s : State) (m : Master) (a : Access) (v : Verdict) (l : List WatchIdx) :
    (l.foldl (fun t k => t.hitWatch m a v k) s).check = s.check := by
  induction l generalizing s with
  | nil => rfl
  | cons k l ih => simp [ih]
theorem foldl_hitWatch_slots (s : State) (m : Master) (a : Access) (v : Verdict) (l : List WatchIdx) :
    (l.foldl (fun t k => t.hitWatch m a v k) s).slots = s.slots := by
  induction l generalizing s with
  | nil => rfl
  | cons k l ih => simp [ih]
theorem foldl_hitWatch_engine (s : State) (m : Master) (a : Access) (v : Verdict) (l : List WatchIdx) :
    (l.foldl (fun t k => t.hitWatch m a v k) s).engine = s.engine := by
  induction l generalizing s with
  | nil => rfl
  | cons k l ih => simp [ih]
theorem foldl_hitWatch_band (s : State) (m : Master) (a : Access) (v : Verdict) (l : List WatchIdx) :
    (l.foldl (fun t k => t.hitWatch m a v k) s).band = s.band := by
  induction l generalizing s with
  | nil => rfl
  | cons k l ih => simp [ih]
theorem foldl_hitWatch_startUp (s : State) (m : Master) (a : Access) (v : Verdict) (l : List WatchIdx) :
    (l.foldl (fun t k => t.hitWatch m a v k) s).startUp = s.startUp := by
  induction l generalizing s with
  | nil => rfl
  | cons k l ih => simp [ih]
theorem foldl_hitWatch_pins (s : State) (m : Master) (a : Access) (v : Verdict) (l : List WatchIdx) :
    (l.foldl (fun t k => t.hitWatch m a v k) s).pins = s.pins := by
  induction l generalizing s with
  | nil => rfl
  | cons k l ih => simp [ih]
theorem foldl_hitWatch_pending (s : State) (m : Master) (a : Access) (v : Verdict) (l : List WatchIdx) :
    (l.foldl (fun t k => t.hitWatch m a v k) s).pending = s.pending := by
  induction l generalizing s with
  | nil => rfl
  | cons k l ih => simp [ih]
@[simp] theorem State.hitWatches_links (s : State) (m : Master) (a : Access) (v : Verdict) :
    (s.hitWatches m a v).links = s.links := by
  unfold State.hitWatches; split <;> simp [foldl_hitWatch_links]
@[simp] theorem State.hitWatches_table (s : State) (m : Master) (a : Access) (v : Verdict) :
    (s.hitWatches m a v).table = s.table := by
  unfold State.hitWatches; split <;> simp [foldl_hitWatch_table]
@[simp] theorem State.hitWatches_tallies (s : State) (m : Master) (a : Access) (v : Verdict) :
    (s.hitWatches m a v).tallies = s.tallies := by
  unfold State.hitWatches; split <;> simp [foldl_hitWatch_tallies]
@[simp] theorem State.hitWatches_sessions (s : State) (m : Master) (a : Access) (v : Verdict) :
    (s.hitWatches m a v).sessions = s.sessions := by
  unfold State.hitWatches; split <;> simp [foldl_hitWatch_sessions]
@[simp] theorem State.hitWatches_queue (s : State) (m : Master) (a : Access) (v : Verdict) :
    (s.hitWatches m a v).queue = s.queue := by
  unfold State.hitWatches; split <;> simp [foldl_hitWatch_queue]
@[simp] theorem State.hitWatches_failures (s : State) (m : Master) (a : Access) (v : Verdict) :
    (s.hitWatches m a v).failures = s.failures := by
  unfold State.hitWatches; split <;> simp [foldl_hitWatch_failures]
@[simp] theorem State.hitWatches_clock (s : State) (m : Master) (a : Access) (v : Verdict) :
    (s.hitWatches m a v).clock = s.clock := by
  unfold State.hitWatches; split <;> simp [foldl_hitWatch_clock]
@[simp] theorem State.hitWatches_check (s : State) (m : Master) (a : Access) (v : Verdict) :
    (s.hitWatches m a v).check = s.check := by
  unfold State.hitWatches; split <;> simp [foldl_hitWatch_check]
@[simp] theorem State.hitWatches_slots (s : State) (m : Master) (a : Access) (v : Verdict) :
    (s.hitWatches m a v).slots = s.slots := by
  unfold State.hitWatches; split <;> simp [foldl_hitWatch_slots]
@[simp] theorem State.hitWatches_engine (s : State) (m : Master) (a : Access) (v : Verdict) :
    (s.hitWatches m a v).engine = s.engine := by
  unfold State.hitWatches; split <;> simp [foldl_hitWatch_engine]
@[simp] theorem State.hitWatches_band (s : State) (m : Master) (a : Access) (v : Verdict) :
    (s.hitWatches m a v).band = s.band := by
  unfold State.hitWatches; split <;> simp [foldl_hitWatch_band]
@[simp] theorem State.hitWatches_startUp (s : State) (m : Master) (a : Access) (v : Verdict) :
    (s.hitWatches m a v).startUp = s.startUp := by
  unfold State.hitWatches; split <;> simp [foldl_hitWatch_startUp]
@[simp] theorem State.hitWatches_pins (s : State) (m : Master) (a : Access) (v : Verdict) :
    (s.hitWatches m a v).pins = s.pins := by
  unfold State.hitWatches; split <;> simp [foldl_hitWatch_pins]
@[simp] theorem State.hitWatches_pending (s : State) (m : Master) (a : Access) (v : Verdict) :
    (s.hitWatches m a v).pending = s.pending := by
  unfold State.hitWatches; split <;> simp [foldl_hitWatch_pending]
@[simp] theorem State.hitWatches_link (s : State) (m : Master) (a : Access) (v : Verdict) (j : Master) :
    (s.hitWatches m a v).link j = s.link j := by
  simp [State.link]
@[simp] theorem State.hitWatches_record (s : State) (m : Master) (a : Access) (v : Verdict) (j : RecIdx) :
    (s.hitWatches m a v).record j = s.record j := by
  simp [State.record]
@[simp] theorem State.hitWatches_tally (s : State) (m : Master) (a : Access) (v : Verdict) (j : Master) :
    (s.hitWatches m a v).tally j = s.tally j := by
  simp [State.tally]
@[simp] theorem State.hitWatches_session (s : State) (m : Master) (a : Access) (v : Verdict) (j : Master) :
    (s.hitWatches m a v).session j = s.session j := by
  simp [State.session]
@[simp] theorem State.hitWatches_failureList (s : State) (m : Master) (a : Access) (v : Verdict) (j : Master) :
    (s.hitWatches m a v).failureList j = s.failureList j := by
  simp [State.failureList]
@[simp] theorem State.hitWatches_slot (s : State) (m : Master) (a : Access) (v : Verdict) (j : SlotIdx) :
    (s.hitWatches m a v).slot j = s.slot j := by
  simp [State.slot]
@[simp] theorem State.hitWatches_mode (s : State) (m : Master) (a : Access) (v : Verdict) :
    (s.hitWatches m a v).mode = s.mode := by
  simp [State.mode]
@[simp] theorem State.hitWatches_now (s : State) (m : Master) (a : Access) (v : Verdict) :
    (s.hitWatches m a v).now = s.now := by
  simp [State.now]
@[simp] theorem State.hitWatches_after (s : State) (m : Master) (a : Access) (v : Verdict) (n : Nat) :
    (s.hitWatches m a v).after n = s.after n := by
  simp [State.after]
@[simp] theorem State.hitWatches_ticksTo (s : State) (m : Master) (a : Access) (v : Verdict) (d : Tick) :
    (s.hitWatches m a v).ticksTo d = s.ticksTo d := by
  simp [State.ticksTo]

@[simp] theorem State.applyVerdict_links (s : State) (a : Access) (v : Verdict) :
    (s.applyVerdict a v).links = s.links := by
  unfold State.applyVerdict; split <;> simp
@[simp] theorem State.applyVerdict_tallies (s : State) (a : Access) (v : Verdict) :
    (s.applyVerdict a v).tallies = s.tallies := by
  unfold State.applyVerdict; split <;> simp
@[simp] theorem State.applyVerdict_sessions (s : State) (a : Access) (v : Verdict) :
    (s.applyVerdict a v).sessions = s.sessions := by
  unfold State.applyVerdict; split <;> simp
@[simp] theorem State.applyVerdict_queue (s : State) (a : Access) (v : Verdict) :
    (s.applyVerdict a v).queue = s.queue := by
  unfold State.applyVerdict; split <;> simp
@[simp] theorem State.applyVerdict_failures (s : State) (a : Access) (v : Verdict) :
    (s.applyVerdict a v).failures = s.failures := by
  unfold State.applyVerdict; split <;> simp
@[simp] theorem State.applyVerdict_clock (s : State) (a : Access) (v : Verdict) :
    (s.applyVerdict a v).clock = s.clock := by
  unfold State.applyVerdict; split <;> simp
@[simp] theorem State.applyVerdict_check (s : State) (a : Access) (v : Verdict) :
    (s.applyVerdict a v).check = s.check := by
  unfold State.applyVerdict; split <;> simp
@[simp] theorem State.applyVerdict_slots (s : State) (a : Access) (v : Verdict) :
    (s.applyVerdict a v).slots = s.slots := by
  unfold State.applyVerdict; split <;> simp
@[simp] theorem State.applyVerdict_engine (s : State) (a : Access) (v : Verdict) :
    (s.applyVerdict a v).engine = s.engine := by
  unfold State.applyVerdict; split <;> simp
@[simp] theorem State.applyVerdict_band (s : State) (a : Access) (v : Verdict) :
    (s.applyVerdict a v).band = s.band := by
  unfold State.applyVerdict; split <;> simp
@[simp] theorem State.applyVerdict_startUp (s : State) (a : Access) (v : Verdict) :
    (s.applyVerdict a v).startUp = s.startUp := by
  unfold State.applyVerdict; split <;> simp
@[simp] theorem State.applyVerdict_pins (s : State) (a : Access) (v : Verdict) :
    (s.applyVerdict a v).pins = s.pins := by
  unfold State.applyVerdict; split <;> simp
@[simp] theorem State.applyVerdict_pending (s : State) (a : Access) (v : Verdict) :
    (s.applyVerdict a v).pending = s.pending := by
  unfold State.applyVerdict; split <;> simp
@[simp] theorem State.applyVerdict_link (s : State) (a : Access) (v : Verdict) (j : Master) :
    (s.applyVerdict a v).link j = s.link j := by
  simp [State.link]
@[simp] theorem State.applyVerdict_tally (s : State) (a : Access) (v : Verdict) (j : Master) :
    (s.applyVerdict a v).tally j = s.tally j := by
  simp [State.tally]
@[simp] theorem State.applyVerdict_session (s : State) (a : Access) (v : Verdict) (j : Master) :
    (s.applyVerdict a v).session j = s.session j := by
  simp [State.session]
@[simp] theorem State.applyVerdict_failureList (s : State) (a : Access) (v : Verdict) (j : Master) :
    (s.applyVerdict a v).failureList j = s.failureList j := by
  simp [State.failureList]
@[simp] theorem State.applyVerdict_slot (s : State) (a : Access) (v : Verdict) (j : SlotIdx) :
    (s.applyVerdict a v).slot j = s.slot j := by
  simp [State.slot]
@[simp] theorem State.applyVerdict_mode (s : State) (a : Access) (v : Verdict) :
    (s.applyVerdict a v).mode = s.mode := by
  simp [State.mode]
@[simp] theorem State.applyVerdict_now (s : State) (a : Access) (v : Verdict) : (s.applyVerdict a v).now = s.now := by
  simp [State.now]
@[simp] theorem State.applyVerdict_after (s : State) (a : Access) (v : Verdict) (n : Nat) :
    (s.applyVerdict a v).after n = s.after n := by
  simp [State.after]
@[simp] theorem State.applyVerdict_ticksTo (s : State) (a : Access) (v : Verdict) (d : Tick) :
    (s.applyVerdict a v).ticksTo d = s.ticksTo d := by
  simp [State.ticksTo]

/-! ### Machine/StartUp.lean -/

@[simp] theorem State.breakPhase_links (s : State) : (s.breakPhase).links = s.links := by
  unfold State.breakPhase; split <;> simp
@[simp] theorem State.breakPhase_table (s : State) : (s.breakPhase).table = s.table := by
  unfold State.breakPhase; split <;> simp
@[simp] theorem State.breakPhase_tallies (s : State) : (s.breakPhase).tallies = s.tallies := by
  unfold State.breakPhase; split <;> simp
@[simp] theorem State.breakPhase_sessions (s : State) : (s.breakPhase).sessions = s.sessions := by
  unfold State.breakPhase; split <;> simp
@[simp] theorem State.breakPhase_queue (s : State) : (s.breakPhase).queue = s.queue := by
  unfold State.breakPhase; split <;> simp
@[simp] theorem State.breakPhase_failures (s : State) : (s.breakPhase).failures = s.failures := by
  unfold State.breakPhase; split <;> simp
@[simp] theorem State.breakPhase_clock (s : State) : (s.breakPhase).clock = s.clock := by
  unfold State.breakPhase; split <;> simp
@[simp] theorem State.breakPhase_check (s : State) : (s.breakPhase).check = s.check := by
  unfold State.breakPhase; split <;> simp
@[simp] theorem State.breakPhase_watches (s : State) : (s.breakPhase).watches = s.watches := by
  unfold State.breakPhase; split <;> simp
@[simp] theorem State.breakPhase_notices (s : State) : (s.breakPhase).notices = s.notices := by
  unfold State.breakPhase; split <;> simp
@[simp] theorem State.breakPhase_engine (s : State) : (s.breakPhase).engine = s.engine := by
  unfold State.breakPhase; split <;> simp
@[simp] theorem State.breakPhase_startUp (s : State) : (s.breakPhase).startUp = s.startUp := by
  unfold State.breakPhase; split <;> simp
@[simp] theorem State.breakPhase_pins (s : State) : (s.breakPhase).pins = s.pins := by
  unfold State.breakPhase; split <;> simp
@[simp] theorem State.breakPhase_pending (s : State) : (s.breakPhase).pending = s.pending := by
  unfold State.breakPhase; split <;> simp
@[simp] theorem State.breakPhase_link (s : State) (j : Master) : (s.breakPhase).link j = s.link j := by
  simp [State.link]
@[simp] theorem State.breakPhase_record (s : State) (j : RecIdx) : (s.breakPhase).record j = s.record j := by
  simp [State.record]
@[simp] theorem State.breakPhase_tally (s : State) (j : Master) : (s.breakPhase).tally j = s.tally j := by
  simp [State.tally]
@[simp] theorem State.breakPhase_session (s : State) (j : Master) : (s.breakPhase).session j = s.session j := by
  simp [State.session]
@[simp] theorem State.breakPhase_failureList (s : State) (j : Master) :
    (s.breakPhase).failureList j = s.failureList j := by
  simp [State.failureList]
@[simp] theorem State.breakPhase_watch (s : State) (j : WatchIdx) : (s.breakPhase).watch j = s.watch j := by
  simp [State.watch]
@[simp] theorem State.breakPhase_notice (s : State) (j : Master) : (s.breakPhase).notice j = s.notice j := by
  simp [State.notice]
@[simp] theorem State.breakPhase_mode (s : State) : (s.breakPhase).mode = s.mode := by
  simp [State.mode]
@[simp] theorem State.breakPhase_now (s : State) : (s.breakPhase).now = s.now := by
  simp [State.now]
@[simp] theorem State.breakPhase_after (s : State) (n : Nat) : (s.breakPhase).after n = s.after n := by
  simp [State.after]
@[simp] theorem State.breakPhase_ticksTo (s : State) (d : Tick) : (s.breakPhase).ticksTo d = s.ticksTo d := by
  simp [State.ticksTo]

@[simp] theorem State.reportDamaged_links (s : State) (k : SlotIdx) : (s.reportDamaged k).links = s.links := by
  simp [State.reportDamaged]
@[simp] theorem State.reportDamaged_table (s : State) (k : SlotIdx) : (s.reportDamaged k).table = s.table := by
  simp [State.reportDamaged]
@[simp] theorem State.reportDamaged_tallies (s : State) (k : SlotIdx) : (s.reportDamaged k).tallies = s.tallies := by
  simp [State.reportDamaged]
@[simp] theorem State.reportDamaged_sessions (s : State) (k : SlotIdx) :
    (s.reportDamaged k).sessions = s.sessions := by
  simp [State.reportDamaged]
@[simp] theorem State.reportDamaged_queue (s : State) (k : SlotIdx) : (s.reportDamaged k).queue = s.queue := by
  simp [State.reportDamaged]
@[simp] theorem State.reportDamaged_failures (s : State) (k : SlotIdx) :
    (s.reportDamaged k).failures = s.failures := by
  simp [State.reportDamaged]
@[simp] theorem State.reportDamaged_clock (s : State) (k : SlotIdx) : (s.reportDamaged k).clock = s.clock := by
  simp [State.reportDamaged]
@[simp] theorem State.reportDamaged_check (s : State) (k : SlotIdx) : (s.reportDamaged k).check = s.check := by
  simp [State.reportDamaged]
@[simp] theorem State.reportDamaged_watches (s : State) (k : SlotIdx) : (s.reportDamaged k).watches = s.watches := by
  simp [State.reportDamaged]
@[simp] theorem State.reportDamaged_notices (s : State) (k : SlotIdx) : (s.reportDamaged k).notices = s.notices := by
  simp [State.reportDamaged]
@[simp] theorem State.reportDamaged_engine (s : State) (k : SlotIdx) : (s.reportDamaged k).engine = s.engine := by
  simp [State.reportDamaged]
@[simp] theorem State.reportDamaged_band (s : State) (k : SlotIdx) : (s.reportDamaged k).band = s.band := by
  simp [State.reportDamaged]
@[simp] theorem State.reportDamaged_pins (s : State) (k : SlotIdx) : (s.reportDamaged k).pins = s.pins := by
  simp [State.reportDamaged]
@[simp] theorem State.reportDamaged_pending (s : State) (k : SlotIdx) : (s.reportDamaged k).pending = s.pending := by
  simp [State.reportDamaged]
@[simp] theorem State.reportDamaged_link (s : State) (k : SlotIdx) (j : Master) :
    (s.reportDamaged k).link j = s.link j := by
  simp [State.link]
@[simp] theorem State.reportDamaged_record (s : State) (k : SlotIdx) (j : RecIdx) :
    (s.reportDamaged k).record j = s.record j := by
  simp [State.record]
@[simp] theorem State.reportDamaged_tally (s : State) (k : SlotIdx) (j : Master) :
    (s.reportDamaged k).tally j = s.tally j := by
  simp [State.tally]
@[simp] theorem State.reportDamaged_session (s : State) (k : SlotIdx) (j : Master) :
    (s.reportDamaged k).session j = s.session j := by
  simp [State.session]
@[simp] theorem State.reportDamaged_failureList (s : State) (k : SlotIdx) (j : Master) :
    (s.reportDamaged k).failureList j = s.failureList j := by
  simp [State.failureList]
@[simp] theorem State.reportDamaged_watch (s : State) (k : SlotIdx) (j : WatchIdx) :
    (s.reportDamaged k).watch j = s.watch j := by
  simp [State.watch]
@[simp] theorem State.reportDamaged_notice (s : State) (k : SlotIdx) (j : Master) :
    (s.reportDamaged k).notice j = s.notice j := by
  simp [State.notice]
@[simp] theorem State.reportDamaged_now (s : State) (k : SlotIdx) : (s.reportDamaged k).now = s.now := by
  simp [State.now]
@[simp] theorem State.reportDamaged_after (s : State) (k : SlotIdx) (n : Nat) :
    (s.reportDamaged k).after n = s.after n := by
  simp [State.after]
@[simp] theorem State.reportDamaged_ticksTo (s : State) (k : SlotIdx) (d : Tick) :
    (s.reportDamaged k).ticksTo d = s.ticksTo d := by
  simp [State.ticksTo]

@[simp] theorem State.reportRejected_links (s : State) (k : SlotIdx) : (s.reportRejected k).links = s.links := by
  simp [State.reportRejected]
@[simp] theorem State.reportRejected_table (s : State) (k : SlotIdx) : (s.reportRejected k).table = s.table := by
  simp [State.reportRejected]
@[simp] theorem State.reportRejected_tallies (s : State) (k : SlotIdx) :
    (s.reportRejected k).tallies = s.tallies := by
  simp [State.reportRejected]
@[simp] theorem State.reportRejected_sessions (s : State) (k : SlotIdx) :
    (s.reportRejected k).sessions = s.sessions := by
  simp [State.reportRejected]
@[simp] theorem State.reportRejected_queue (s : State) (k : SlotIdx) : (s.reportRejected k).queue = s.queue := by
  simp [State.reportRejected]
@[simp] theorem State.reportRejected_failures (s : State) (k : SlotIdx) :
    (s.reportRejected k).failures = s.failures := by
  simp [State.reportRejected]
@[simp] theorem State.reportRejected_clock (s : State) (k : SlotIdx) : (s.reportRejected k).clock = s.clock := by
  simp [State.reportRejected]
@[simp] theorem State.reportRejected_check (s : State) (k : SlotIdx) : (s.reportRejected k).check = s.check := by
  simp [State.reportRejected]
@[simp] theorem State.reportRejected_watches (s : State) (k : SlotIdx) :
    (s.reportRejected k).watches = s.watches := by
  simp [State.reportRejected]
@[simp] theorem State.reportRejected_notices (s : State) (k : SlotIdx) :
    (s.reportRejected k).notices = s.notices := by
  simp [State.reportRejected]
@[simp] theorem State.reportRejected_engine (s : State) (k : SlotIdx) : (s.reportRejected k).engine = s.engine := by
  simp [State.reportRejected]
@[simp] theorem State.reportRejected_band (s : State) (k : SlotIdx) : (s.reportRejected k).band = s.band := by
  simp [State.reportRejected]
@[simp] theorem State.reportRejected_pins (s : State) (k : SlotIdx) : (s.reportRejected k).pins = s.pins := by
  simp [State.reportRejected]
@[simp] theorem State.reportRejected_pending (s : State) (k : SlotIdx) :
    (s.reportRejected k).pending = s.pending := by
  simp [State.reportRejected]
@[simp] theorem State.reportRejected_link (s : State) (k : SlotIdx) (j : Master) :
    (s.reportRejected k).link j = s.link j := by
  simp [State.link]
@[simp] theorem State.reportRejected_record (s : State) (k : SlotIdx) (j : RecIdx) :
    (s.reportRejected k).record j = s.record j := by
  simp [State.record]
@[simp] theorem State.reportRejected_tally (s : State) (k : SlotIdx) (j : Master) :
    (s.reportRejected k).tally j = s.tally j := by
  simp [State.tally]
@[simp] theorem State.reportRejected_session (s : State) (k : SlotIdx) (j : Master) :
    (s.reportRejected k).session j = s.session j := by
  simp [State.session]
@[simp] theorem State.reportRejected_failureList (s : State) (k : SlotIdx) (j : Master) :
    (s.reportRejected k).failureList j = s.failureList j := by
  simp [State.failureList]
@[simp] theorem State.reportRejected_watch (s : State) (k : SlotIdx) (j : WatchIdx) :
    (s.reportRejected k).watch j = s.watch j := by
  simp [State.watch]
@[simp] theorem State.reportRejected_notice (s : State) (k : SlotIdx) (j : Master) :
    (s.reportRejected k).notice j = s.notice j := by
  simp [State.notice]
@[simp] theorem State.reportRejected_now (s : State) (k : SlotIdx) : (s.reportRejected k).now = s.now := by
  simp [State.now]
@[simp] theorem State.reportRejected_after (s : State) (k : SlotIdx) (n : Nat) :
    (s.reportRejected k).after n = s.after n := by
  simp [State.after]
@[simp] theorem State.reportRejected_ticksTo (s : State) (k : SlotIdx) (d : Tick) :
    (s.reportRejected k).ticksTo d = s.ticksTo d := by
  simp [State.ticksTo]

@[simp] theorem State.restoreWindow_links (s : State) (k : SlotIdx) (w : Window) :
    (s.restoreWindow k w).links = s.links := by
  unfold State.restoreWindow; split <;> simp
@[simp] theorem State.restoreWindow_sessions (s : State) (k : SlotIdx) (w : Window) :
    (s.restoreWindow k w).sessions = s.sessions := by
  unfold State.restoreWindow; split <;> simp
@[simp] theorem State.restoreWindow_queue (s : State) (k : SlotIdx) (w : Window) :
    (s.restoreWindow k w).queue = s.queue := by
  unfold State.restoreWindow; split <;> simp
@[simp] theorem State.restoreWindow_failures (s : State) (k : SlotIdx) (w : Window) :
    (s.restoreWindow k w).failures = s.failures := by
  unfold State.restoreWindow; split <;> simp
@[simp] theorem State.restoreWindow_clock (s : State) (k : SlotIdx) (w : Window) :
    (s.restoreWindow k w).clock = s.clock := by
  unfold State.restoreWindow; split <;> simp
@[simp] theorem State.restoreWindow_check (s : State) (k : SlotIdx) (w : Window) :
    (s.restoreWindow k w).check = s.check := by
  unfold State.restoreWindow; split <;> simp
@[simp] theorem State.restoreWindow_watches (s : State) (k : SlotIdx) (w : Window) :
    (s.restoreWindow k w).watches = s.watches := by
  unfold State.restoreWindow; split <;> simp
@[simp] theorem State.restoreWindow_notices (s : State) (k : SlotIdx) (w : Window) :
    (s.restoreWindow k w).notices = s.notices := by
  unfold State.restoreWindow; split <;> simp
@[simp] theorem State.restoreWindow_engine (s : State) (k : SlotIdx) (w : Window) :
    (s.restoreWindow k w).engine = s.engine := by
  unfold State.restoreWindow; split <;> simp
@[simp] theorem State.restoreWindow_band (s : State) (k : SlotIdx) (w : Window) :
    (s.restoreWindow k w).band = s.band := by
  unfold State.restoreWindow; split <;> simp
@[simp] theorem State.restoreWindow_startUp (s : State) (k : SlotIdx) (w : Window) :
    (s.restoreWindow k w).startUp = s.startUp := by
  unfold State.restoreWindow; split <;> simp
@[simp] theorem State.restoreWindow_pins (s : State) (k : SlotIdx) (w : Window) :
    (s.restoreWindow k w).pins = s.pins := by
  unfold State.restoreWindow; split <;> simp
@[simp] theorem State.restoreWindow_pending (s : State) (k : SlotIdx) (w : Window) :
    (s.restoreWindow k w).pending = s.pending := by
  unfold State.restoreWindow; split <;> simp
@[simp] theorem State.restoreWindow_link (s : State) (k : SlotIdx) (w : Window) (j : Master) :
    (s.restoreWindow k w).link j = s.link j := by
  simp [State.link]
@[simp] theorem State.restoreWindow_session (s : State) (k : SlotIdx) (w : Window) (j : Master) :
    (s.restoreWindow k w).session j = s.session j := by
  simp [State.session]
@[simp] theorem State.restoreWindow_failureList (s : State) (k : SlotIdx) (w : Window) (j : Master) :
    (s.restoreWindow k w).failureList j = s.failureList j := by
  simp [State.failureList]
@[simp] theorem State.restoreWindow_watch (s : State) (k : SlotIdx) (w : Window) (j : WatchIdx) :
    (s.restoreWindow k w).watch j = s.watch j := by
  simp [State.watch]
@[simp] theorem State.restoreWindow_notice (s : State) (k : SlotIdx) (w : Window) (j : Master) :
    (s.restoreWindow k w).notice j = s.notice j := by
  simp [State.notice]
@[simp] theorem State.restoreWindow_mode (s : State) (k : SlotIdx) (w : Window) :
    (s.restoreWindow k w).mode = s.mode := by
  simp [State.mode]
@[simp] theorem State.restoreWindow_now (s : State) (k : SlotIdx) (w : Window) :
    (s.restoreWindow k w).now = s.now := by
  simp [State.now]
@[simp] theorem State.restoreWindow_after (s : State) (k : SlotIdx) (w : Window) (n : Nat) :
    (s.restoreWindow k w).after n = s.after n := by
  simp [State.after]
@[simp] theorem State.restoreWindow_ticksTo (s : State) (k : SlotIdx) (w : Window) (d : Tick) :
    (s.restoreWindow k w).ticksTo d = s.ticksTo d := by
  simp [State.ticksTo]

@[simp] theorem State.restoreSlot_links (s : State) (k : SlotIdx) : (s.restoreSlot k).links = s.links := by
  unfold State.restoreSlot; repeat' split
  all_goals simp
@[simp] theorem State.restoreSlot_sessions (s : State) (k : SlotIdx) : (s.restoreSlot k).sessions = s.sessions := by
  unfold State.restoreSlot; repeat' split
  all_goals simp
@[simp] theorem State.restoreSlot_queue (s : State) (k : SlotIdx) : (s.restoreSlot k).queue = s.queue := by
  unfold State.restoreSlot; repeat' split
  all_goals simp
@[simp] theorem State.restoreSlot_failures (s : State) (k : SlotIdx) : (s.restoreSlot k).failures = s.failures := by
  unfold State.restoreSlot; repeat' split
  all_goals simp
@[simp] theorem State.restoreSlot_clock (s : State) (k : SlotIdx) : (s.restoreSlot k).clock = s.clock := by
  unfold State.restoreSlot; repeat' split
  all_goals simp
@[simp] theorem State.restoreSlot_check (s : State) (k : SlotIdx) : (s.restoreSlot k).check = s.check := by
  unfold State.restoreSlot; repeat' split
  all_goals simp
@[simp] theorem State.restoreSlot_watches (s : State) (k : SlotIdx) : (s.restoreSlot k).watches = s.watches := by
  unfold State.restoreSlot; repeat' split
  all_goals simp
@[simp] theorem State.restoreSlot_notices (s : State) (k : SlotIdx) : (s.restoreSlot k).notices = s.notices := by
  unfold State.restoreSlot; repeat' split
  all_goals simp
@[simp] theorem State.restoreSlot_engine (s : State) (k : SlotIdx) : (s.restoreSlot k).engine = s.engine := by
  unfold State.restoreSlot; repeat' split
  all_goals simp
@[simp] theorem State.restoreSlot_band (s : State) (k : SlotIdx) : (s.restoreSlot k).band = s.band := by
  unfold State.restoreSlot; repeat' split
  all_goals simp
@[simp] theorem State.restoreSlot_pins (s : State) (k : SlotIdx) : (s.restoreSlot k).pins = s.pins := by
  unfold State.restoreSlot; repeat' split
  all_goals simp
@[simp] theorem State.restoreSlot_pending (s : State) (k : SlotIdx) : (s.restoreSlot k).pending = s.pending := by
  unfold State.restoreSlot; repeat' split
  all_goals simp
@[simp] theorem State.restoreSlot_link (s : State) (k : SlotIdx) (j : Master) :
    (s.restoreSlot k).link j = s.link j := by
  simp [State.link]
@[simp] theorem State.restoreSlot_session (s : State) (k : SlotIdx) (j : Master) :
    (s.restoreSlot k).session j = s.session j := by
  simp [State.session]
@[simp] theorem State.restoreSlot_failureList (s : State) (k : SlotIdx) (j : Master) :
    (s.restoreSlot k).failureList j = s.failureList j := by
  simp [State.failureList]
@[simp] theorem State.restoreSlot_watch (s : State) (k : SlotIdx) (j : WatchIdx) :
    (s.restoreSlot k).watch j = s.watch j := by
  simp [State.watch]
@[simp] theorem State.restoreSlot_notice (s : State) (k : SlotIdx) (j : Master) :
    (s.restoreSlot k).notice j = s.notice j := by
  simp [State.notice]
@[simp] theorem State.restoreSlot_now (s : State) (k : SlotIdx) : (s.restoreSlot k).now = s.now := by
  simp [State.now]
@[simp] theorem State.restoreSlot_after (s : State) (k : SlotIdx) (n : Nat) :
    (s.restoreSlot k).after n = s.after n := by
  simp [State.after]
@[simp] theorem State.restoreSlot_ticksTo (s : State) (k : SlotIdx) (d : Tick) :
    (s.restoreSlot k).ticksTo d = s.ticksTo d := by
  simp [State.ticksTo]

/-! ### Machine/Maintenance.lean -/

@[simp] theorem State.purgeWindow_links (s : State) (b : Option RecIdx) : (s.purgeWindow b).links = s.links := by
  cases b <;> simp [State.purgeWindow]
@[simp] theorem State.purgeWindow_sessions (s : State) (b : Option RecIdx) :
    (s.purgeWindow b).sessions = s.sessions := by
  cases b <;> simp [State.purgeWindow]
@[simp] theorem State.purgeWindow_clock (s : State) (b : Option RecIdx) : (s.purgeWindow b).clock = s.clock := by
  cases b <;> simp [State.purgeWindow]
@[simp] theorem State.purgeWindow_check (s : State) (b : Option RecIdx) : (s.purgeWindow b).check = s.check := by
  cases b <;> simp [State.purgeWindow]
@[simp] theorem State.purgeWindow_watches (s : State) (b : Option RecIdx) :
    (s.purgeWindow b).watches = s.watches := by
  cases b <;> simp [State.purgeWindow]
@[simp] theorem State.purgeWindow_engine (s : State) (b : Option RecIdx) : (s.purgeWindow b).engine = s.engine := by
  cases b <;> simp [State.purgeWindow]
@[simp] theorem State.purgeWindow_band (s : State) (b : Option RecIdx) : (s.purgeWindow b).band = s.band := by
  cases b <;> simp [State.purgeWindow]
@[simp] theorem State.purgeWindow_startUp (s : State) (b : Option RecIdx) :
    (s.purgeWindow b).startUp = s.startUp := by
  cases b <;> simp [State.purgeWindow]
@[simp] theorem State.purgeWindow_pins (s : State) (b : Option RecIdx) : (s.purgeWindow b).pins = s.pins := by
  cases b <;> simp [State.purgeWindow]
@[simp] theorem State.purgeWindow_pending (s : State) (b : Option RecIdx) :
    (s.purgeWindow b).pending = s.pending := by
  cases b <;> simp [State.purgeWindow]
@[simp] theorem State.purgeWindow_link (s : State) (b : Option RecIdx) (j : Master) :
    (s.purgeWindow b).link j = s.link j := by
  simp [State.link]
@[simp] theorem State.purgeWindow_session (s : State) (b : Option RecIdx) (j : Master) :
    (s.purgeWindow b).session j = s.session j := by
  simp [State.session]
@[simp] theorem State.purgeWindow_watch (s : State) (b : Option RecIdx) (j : WatchIdx) :
    (s.purgeWindow b).watch j = s.watch j := by
  simp [State.watch]
@[simp] theorem State.purgeWindow_mode (s : State) (b : Option RecIdx) : (s.purgeWindow b).mode = s.mode := by
  simp [State.mode]
@[simp] theorem State.purgeWindow_now (s : State) (b : Option RecIdx) : (s.purgeWindow b).now = s.now := by
  simp [State.now]
@[simp] theorem State.purgeWindow_after (s : State) (b : Option RecIdx) (n : Nat) :
    (s.purgeWindow b).after n = s.after n := by
  simp [State.after]
@[simp] theorem State.purgeWindow_ticksTo (s : State) (b : Option RecIdx) (d : Tick) :
    (s.purgeWindow b).ticksTo d = s.ticksTo d := by
  simp [State.ticksTo]

/-! ### Machine/Frames.lean -/

@[simp] theorem State.fallLsel_table (s : State) (m : Master) : (s.fallLsel m).table = s.table := by
  unfold State.fallLsel; split <;> simp
@[simp] theorem State.fallLsel_tallies (s : State) (m : Master) : (s.fallLsel m).tallies = s.tallies := by
  unfold State.fallLsel; split <;> simp
@[simp] theorem State.fallLsel_sessions (s : State) (m : Master) : (s.fallLsel m).sessions = s.sessions := by
  unfold State.fallLsel; split <;> simp
@[simp] theorem State.fallLsel_queue (s : State) (m : Master) : (s.fallLsel m).queue = s.queue := by
  unfold State.fallLsel; split <;> simp
@[simp] theorem State.fallLsel_failures (s : State) (m : Master) : (s.fallLsel m).failures = s.failures := by
  unfold State.fallLsel; split <;> simp
@[simp] theorem State.fallLsel_clock (s : State) (m : Master) : (s.fallLsel m).clock = s.clock := by
  unfold State.fallLsel; split <;> simp
@[simp] theorem State.fallLsel_check (s : State) (m : Master) : (s.fallLsel m).check = s.check := by
  unfold State.fallLsel; split <;> simp
@[simp] theorem State.fallLsel_watches (s : State) (m : Master) : (s.fallLsel m).watches = s.watches := by
  unfold State.fallLsel; split <;> simp
@[simp] theorem State.fallLsel_notices (s : State) (m : Master) : (s.fallLsel m).notices = s.notices := by
  unfold State.fallLsel; split <;> simp
@[simp] theorem State.fallLsel_slots (s : State) (m : Master) : (s.fallLsel m).slots = s.slots := by
  unfold State.fallLsel; split <;> simp
@[simp] theorem State.fallLsel_engine (s : State) (m : Master) : (s.fallLsel m).engine = s.engine := by
  unfold State.fallLsel; split <;> simp
@[simp] theorem State.fallLsel_band (s : State) (m : Master) : (s.fallLsel m).band = s.band := by
  unfold State.fallLsel; split <;> simp
@[simp] theorem State.fallLsel_startUp (s : State) (m : Master) : (s.fallLsel m).startUp = s.startUp := by
  unfold State.fallLsel; split <;> simp
@[simp] theorem State.fallLsel_pins (s : State) (m : Master) : (s.fallLsel m).pins = s.pins := by
  unfold State.fallLsel; split <;> simp
@[simp] theorem State.fallLsel_pending (s : State) (m : Master) : (s.fallLsel m).pending = s.pending := by
  unfold State.fallLsel; split <;> simp
@[simp] theorem State.fallLsel_record (s : State) (m : Master) (j : RecIdx) :
    (s.fallLsel m).record j = s.record j := by
  simp [State.record]
@[simp] theorem State.fallLsel_tally (s : State) (m : Master) (j : Master) : (s.fallLsel m).tally j = s.tally j := by
  simp [State.tally]
@[simp] theorem State.fallLsel_session (s : State) (m : Master) (j : Master) :
    (s.fallLsel m).session j = s.session j := by
  simp [State.session]
@[simp] theorem State.fallLsel_failureList (s : State) (m : Master) (j : Master) :
    (s.fallLsel m).failureList j = s.failureList j := by
  simp [State.failureList]
@[simp] theorem State.fallLsel_watch (s : State) (m : Master) (j : WatchIdx) :
    (s.fallLsel m).watch j = s.watch j := by
  simp [State.watch]
@[simp] theorem State.fallLsel_notice (s : State) (m : Master) (j : Master) :
    (s.fallLsel m).notice j = s.notice j := by
  simp [State.notice]
@[simp] theorem State.fallLsel_slot (s : State) (m : Master) (j : SlotIdx) : (s.fallLsel m).slot j = s.slot j := by
  simp [State.slot]
@[simp] theorem State.fallLsel_mode (s : State) (m : Master) : (s.fallLsel m).mode = s.mode := by
  simp [State.mode]
@[simp] theorem State.fallLsel_now (s : State) (m : Master) : (s.fallLsel m).now = s.now := by
  simp [State.now]
@[simp] theorem State.fallLsel_after (s : State) (m : Master) (n : Nat) : (s.fallLsel m).after n = s.after n := by
  simp [State.after]
@[simp] theorem State.fallLsel_ticksTo (s : State) (m : Master) (d : Tick) :
    (s.fallLsel m).ticksTo d = s.ticksTo d := by
  simp [State.ticksTo]

end Sys2Proof.Machine
end

