-- ==== Sys2Proof/Laws/Ops.lean ====
section
/-! SUPPORT. What the shared operations do: one lemma for each thing an operation changes, and one for each search of
the window table. Claims cite these; what an operation leaves alone is in Laws/Frame.lean. -/

namespace Sys2Proof.Machine

/-! ### Outcomes and the frame of a request -/

theorem whenPowered_next (f : State → State) (s : State) (h : s.pins.supply = true) :
    whenPowered f s = .next (f s) := by
  simp [whenPowered, h]

theorem whenPowered_off (f : State → State) (s : State) (h : s.pins.supply = false) : whenPowered f s = .next s := by
  simp [whenPowered, h]

/-- Whatever the supply, a command run under it answers a next state. -/
theorem whenPowered_answers (f : State → State) (s : State) : ∃ t, whenPowered f s = .next t := by
  cases h : s.pins.supply
  · exact ⟨s, whenPowered_off f s h⟩
  · exact ⟨f s, whenPowered_next f s h⟩

/-- A request that keeps its encoding is answered by its owning block, on the renewed session. -/
theorem serve_ok (m : Master) (code : Byte) (body : State → Answer) (s : State) :
    serve m code true body s = (body (s.renewSession m)).state.placeReply m
      ⟨(body (s.renewSession m)).status, code, (body (s.renewSession m)).results⟩ := rfl

/-- A request that breaks its encoding is answered BAD_OPERAND, on the renewed session. -/
theorem serve_bad (m : Master) (code : Byte) (body : State → Answer) (s : State) :
    serve m code false body s = (s.renewSession m).placeReply m ⟨.badOperand, code, []⟩ := rfl

@[simp] theorem State.gated_some (s : State) (st : Status) (rest : Answer) : s.gated (some st) rest = s.refuse st := rfl
@[simp] theorem State.gated_none (s : State) (rest : Answer) : s.gated none rest = rest := rfl

theorem State.placeReply_link (s : State) (m : Master) (r : Reply) (k : Master) :
    (s.placeReply m r).link k = if m = k then { s.link m with reply := some r } else s.link k := by
  simp [State.placeReply, State.setLink_link]

@[simp] theorem State.placeReply_reply (s : State) (m : Master) (r : Reply) :
    ((s.placeReply m r).link m).reply = some r := by
  simp [State.placeReply]

/-- The tests of R24 pass for a master the part takes requests from. -/
theorem State.partGate_none (s : State) (m : Master) (h : s.takes m) : s.partGate m = none := by
  obtain ⟨_, h1, h2⟩ := h
  unfold State.partGate
  cases hm : s.mode with
  | starting => exact absurd hm h1
  | maintenance => simp [h2 hm]
  | running => rfl

/-- The session test passes for an OPEN session. -/
theorem State.sessionGate_none (s : State) (m : Master) (h : (s.session m).state.isOpen = true) :
    s.sessionGate m = none := by
  unfold State.sessionGate
  cases hs : (s.session m).state <;> simp_all [SessionState.isOpen]

theorem State.openGate_none (s : State) (m : Master) (h : s.takesOpen m) : s.openGate m = none := by
  simp [State.openGate, s.partGate_none m h.1, s.sessionGate_none m h.2]

/-- A renewal touches no session but the sender's, and of that only the deadline of an OPEN one (R67). -/
theorem State.renewSession_session (s : State) (m k : Master) :
    (s.renewSession m).session k = if m = k then
      { s.session m with state := match (s.session m).state with
        | .opened p _ => .opened p (s.after p)
        | x => x }
    else s.session k := by
  unfold State.renewSession
  split
  · next p d h => simp [State.setSession_session, h]
  · next h =>
    split
    · next e => subst e; simp only [h]; rw [← h]
    · rfl
  · next h =>
    split
    · next e => subst e; simp only [h]; rw [← h]
    · rfl

/-- A renewal leaves the sender's session in the state it was in, OPEN or not. -/
theorem State.renewSession_isOpen (s : State) (m k : Master) :
    ((s.renewSession m).session k).state.isOpen = (s.session k).state.isOpen := by
  rw [State.renewSession_session]
  split
  · next h => subst h; cases hs : (s.session m).state <;> simp [SessionState.isOpen]
  · rfl

/-! ### Searches of the window table -/

theorem WindowRecord.isFree_iff (r : WindowRecord) : r.isFree = true ↔ r.window = none := by
  simp [WindowRecord.isFree]

theorem WindowRecord.window_eq_some (r : WindowRecord) (w : Window) : r.window = some w ↔ r.holding = .held w := by
  unfold WindowRecord.window
  cases r.holding <;> simp

/-- In a list in index order, the first element that meets a test is the lowest. -/
theorem find?_finRange_eq_some {n : Nat} (p : Fin n → Bool) (i : Fin n) :
    (List.finRange n).find? p = some i ↔ p i = true ∧ ∀ j, j < i → p j = false := by
  rw [List.find?_eq_some_iff_getElem]
  constructor
  · rintro ⟨hp, k, hk, rfl, h⟩
    refine ⟨by simpa using hp, fun j hj => ?_⟩
    have hjk : j.val < k := by simpa [Fin.lt_def] using hj
    simpa using h j.val hjk
  · rintro ⟨hp, h⟩
    refine ⟨by simpa using hp, i.val, by simp, by simp, fun j hj => ?_⟩
    simpa using h ⟨j, lt_trans hj i.isLt⟩ (by simpa [Fin.lt_def] using hj)

theorem find?_finRange_eq_none {n : Nat} (p : Fin n → Bool) :
    (List.finRange n).find? p = none ↔ ∀ i, p i = false := by
  simp [List.find?_eq_none]

/-- The lowest record that meets a test, in the words of claims. -/
theorem State.lowest_eq_some (s : State) (p : RecIdx → Window → Bool) (i : RecIdx) :
    s.lowest p = some i ↔ s.isLowest (fun j w => p j w = true) i := by
  unfold State.lowest
  rw [find?_finRange_eq_some]
  refine and_congr ?_ ⟨fun h j hj w hw hp => ?_, fun h j hj => ?_⟩
  · simp [Option.any_eq_true]
  · have := h j hj
    simp [hw, hp] at this
  · cases hw : (s.record j).window with
    | none => rfl
    | some w => simpa using h j hj w hw

theorem State.lowest_eq_none (s : State) (p : RecIdx → Window → Bool) :
    s.lowest p = none ↔ s.noneInForce (fun j w => p j w = true) := by
  unfold State.lowest
  rw [find?_finRange_eq_none]
  refine ⟨fun h j w hw hp => ?_, fun h j => ?_⟩
  · have := h j
    simp [hw, hp] at this
  · cases hw : (s.record j).window with
    | none => rfl
    | some w => simpa using h j w hw

/-- The lowest FREE record (R7). -/
theorem State.findFree_eq_some (s : State) (i : RecIdx) :
    s.findFree = some i ↔ (s.record i).window = none ∧ ∀ j, j < i → (s.record j).window ≠ none := by
  simp [State.findFree, find?_finRange_eq_some, WindowRecord.isFree, Option.isSome_iff_ne_none]

theorem State.findFree_eq_none (s : State) : s.findFree = none ↔ ∀ i, (s.record i).window ≠ none := by
  simp [State.findFree, WindowRecord.isFree]

/-- No record is FREE exactly when the FREE record count is 0 (R1). -/
theorem State.freeCount_eq_zero (s : State) : s.freeCount = 0 ↔ s.findFree = none := by
  simp [State.freeCount, State.findFree, List.filter_eq_nil_iff, List.find?_eq_none]

/-- Nothing in force conflicts with a region exactly when it has no blocker (R29). -/
theorem State.blocker_eq_none (s : State) (r : Region) :
    s.blocker r = none ↔ s.noneInForce (fun _ w => r.conflicts w.region = true) := s.lowest_eq_none _

theorem State.mem_recordsWhere (s : State) (p : RecIdx → Window → Bool) (i : RecIdx) :
    i ∈ s.recordsWhere p ↔ ∃ w, (s.record i).window = some w ∧ p i w = true := by
  simp [State.recordsWhere, Option.any_eq_true]

/-! ### The conflict relation -/

theorem Region.overlaps_comm (a b : Region) : a.overlaps b = b.overlaps a := by
  simp [Region.overlaps, rangesOverlap, Bool.and_comm]

theorem Region.conflicts_comm (a b : Region) : a.conflicts b = b.conflicts a := by
  simp [Region.conflicts, Region.overlaps_comm a b, Bool.or_comm]

/-! ### Notices -/

theorem State.raise_notice (s : State) (m : Master) (f : Flag) (k : Master) :
    (s.raise m f).notice k = if m = k then
      Notice.refresh { s.notice m with flags := (s.notice m).flags ||| f.mask } s.mode
    else s.notice k := by
  simp [State.raise, State.setNotice_notice]

theorem State.raiseIf_none (s : State) (m : Master) : s.raiseIf m none = s := rfl
theorem State.raiseIf_some (s : State) (m : Master) (f : Flag) : s.raiseIf m (some f) = s.raise m f := rfl

@[simp] theorem Notice.refresh_line (n : Notice) (mode : PartMode) : (n.refresh mode).line = n.level mode := rfl
@[simp] theorem Notice.refresh_level (n : Notice) (mode : PartMode) : (n.refresh mode).level mode = n.level mode := rfl
@[simp] theorem Notice.refresh_flags (n : Notice) (mode : PartMode) : (n.refresh mode).flags = n.flags := rfl
@[simp] theorem Notice.refresh_enables (n : Notice) (mode : PartMode) : (n.refresh mode).enables = n.enables := rfl
@[simp] theorem Notice.refresh_latch (n : Notice) (mode : PartMode) : (n.refresh mode).latch = n.latch := rfl
@[simp] theorem Notice.refresh_more (n : Notice) (mode : PartMode) : (n.refresh mode).more = n.more := rfl

/-! ### Issue and retire -/

theorem State.issue_record (s : State) (i : RecIdx) (w : Window) (j : RecIdx) :
    (s.issue i w).record j =
      if i = j then ⟨nextGeneration (s.record i).generation, .held w⟩ else s.record j := by
  simp [State.issue, State.setRecord_record]

theorem State.issue_tally (s : State) (i : RecIdx) (w : Window) (m : Master) :
    (s.issue i w).tally m = if w.owner = m then (s.tally w.owner).add w else s.tally m := by
  simp [State.issue, State.setTally_tally]

theorem State.setWindow_record (s : State) (i : RecIdx) (w : Window) (j : RecIdx) :
    (s.setWindow i w).record j = if i = j then ⟨(s.record i).generation, .held w⟩ else s.record j := by
  simp [State.setWindow, State.setRecord_record]

/-- The retire of a FREE record is nothing (R22: no deadline is left to act on). -/
theorem State.retire_free (s : State) (c : RetireCause) (i : RecIdx) (h : (s.record i).window = none) :
    s.retire c i = s := by
  simp [State.retire, h]

/-- The record that is retired keeps its generation and takes the cause; no other record is touched (R17, step 1). -/
theorem State.retire_record (s : State) (c : RetireCause) (i : RecIdx) (w : Window)
    (h : (s.record i).window = some w) (j : RecIdx) :
    (s.retire c i).record j =
      if i = j then ⟨(s.record i).generation, .free (some c)⟩ else s.record j := by
  simp [State.retire, h, State.setRecord_record]

/-- The owner's tallies fall, and no other master's (R17, step 2). -/
theorem State.retire_tally (s : State) (c : RetireCause) (i : RecIdx) (w : Window)
    (h : (s.record i).window = some w) (m : Master) :
    (s.retire c i).tally m = if w.owner = m then (s.tally w.owner).remove w else s.tally m := by
  simp [State.retire, h, State.setTally_tally]

/-- A retire touches a record only by freeing it. -/
theorem State.retire_record_ne (s : State) (c : RetireCause) (i j : RecIdx) (h : i ≠ j) :
    (s.retire c i).record j = s.record j := by
  cases hw : (s.record i).window with
  | none => rw [State.retire_free s c i hw]
  | some w => rw [State.retire_record s c i w hw, if_neg h]

/-- Retiring a list of records leaves the records not in it as they were (R20). -/
theorem State.retireAll_record_of_notMem (s : State) (c : RetireCause) (l : List RecIdx) (j : RecIdx) (h : j ∉ l) :
    (s.retireAll c l).record j = s.record j := by
  induction l generalizing s with
  | nil => rfl
  | cons i l ih =>
    have h1 : i ≠ j := fun e => h (by simp [e])
    have h2 : j ∉ l := fun e => h (by simp [e])
    calc ((s.retire c i).retireAll c l).record j = (s.retire c i).record j := ih _ h2
      _ = s.record j := State.retire_record_ne s c i j h1

/-- A record that was FREE is FREE after any retires, as it was. -/
theorem State.retireAll_record_free (s : State) (c : RetireCause) (l : List RecIdx) (j : RecIdx)
    (h : (s.record j).window = none) : (s.retireAll c l).record j = s.record j := by
  induction l generalizing s with
  | nil => rfl
  | cons i l ih =>
    have h1 : (s.retire c i).record j = s.record j := by
      by_cases e : i = j
      · rw [State.retire_free s c i (by rw [e]; exact h)]
      · exact State.retire_record_ne s c i j e
    calc ((s.retire c i).retireAll c l).record j = (s.retire c i).record j := ih _ (by rw [h1]; exact h)
      _ = s.record j := h1

/-- Every record in force of the list is FREE with the cause afterwards (R20). -/
theorem State.retireAll_record_of_mem (s : State) (c : RetireCause) (l : List RecIdx) (j : RecIdx) (w : Window)
    (h : j ∈ l) (hw : (s.record j).window = some w) :
    (s.retireAll c l).record j = ⟨(s.record j).generation, .free (some c)⟩ := by
  induction l generalizing s with
  | nil => cases h
  | cons i l ih =>
    by_cases e : i = j
    · have hj : (s.retire c i).record j = ⟨(s.record j).generation, .free (some c)⟩ := by
        subst e
        rw [State.retire_record s c i w hw, if_pos rfl]
      calc ((s.retire c i).retireAll c l).record j = (s.retire c i).record j :=
            State.retireAll_record_free _ c l j (by rw [hj]; rfl)
        _ = _ := hj
    · have h1 := State.retire_record_ne s c i j e
      have h2 : j ∈ l := by
        rcases List.mem_cons.mp h with e' | h'
        · exact absurd e'.symm e
        · exact h'
      calc ((s.retire c i).retireAll c l).record j
          = ⟨((s.retire c i).record j).generation, .free (some c)⟩ := ih _ h2 (by rw [h1]; exact hw)
        _ = _ := by rw [h1]

/-! ### The grant scan -/

@[simp] theorem State.waitFail_record' (s : State) (c : FailCause) (e : Waiter) (j : RecIdx) :
    (s.waitFail c e).record j = s.record j := by simp

/-- The scan leaves every window in force as it is: it issues into FREE records only (R53, R54). -/
theorem scanFrom_record (older rest : List Waiter) (s : State) (j : RecIdx) (h : (s.record j).window ≠ none) :
    (scanFrom older rest s).record j = s.record j := by
  induction rest generalizing older s with
  | nil => simp [scanFrom]
  | cons e rest ih =>
    unfold scanFrom
    split
    · simp
    · next i hi =>
      split
      · exact ih _ s h
      · split
        · rw [ih _ _ (by simpa using h)]; simp
        · have hne : i ≠ j := fun e' => h (e' ▸ ((s.findFree_eq_some i).mp hi).1)
          have h1 : ((s.issue i (s.grantedWindow e)).raise e.master .grant).record j = s.record j := by
            simp [State.issue_record, hne]
          rw [ih _ _ (by rw [h1]; exact h), h1]

theorem State.grantScan_record (s : State) (j : RecIdx) (h : (s.record j).window ≠ none) :
    s.grantScan.record j = s.record j := scanFrom_record [] s.queue s j h

/-- The entries the scan leaves are some of those it found, in their order (R48, R53). -/
theorem scanFrom_queue (older rest : List Waiter) (s : State) :
    (scanFrom older rest s).queue.Sublist (older ++ rest) := by
  induction rest generalizing older s with
  | nil => simp [scanFrom]
  | cons e rest ih =>
    have hskip : (older ++ rest).Sublist (older ++ e :: rest) :=
      List.Sublist.append_left (List.sublist_cons_self e rest) older
    unfold scanFrom
    split
    · simp
    · split
      · simpa using ih (older ++ [e]) s
      · split
        · exact (ih _ _).trans hskip
        · exact (ih _ _).trans hskip

theorem State.grantScan_queue (s : State) : s.grantScan.queue.Sublist s.queue := scanFrom_queue [] s.queue s

/-- With no entry queued the scan does nothing. -/
theorem State.grantScan_nil (s : State) (h : s.queue = []) : s.grantScan = s := by
  cases s
  simp_all [State.grantScan, scanFrom, State.setQueue]

/-! ### The store engine -/

/-- The engine chooses only when it is IDLE and the part is not STARTING (R127). -/
theorem State.kickEngine_busy (s : State) (h : s.engine ≠ .idle) : s.kickEngine = s := by
  simp [State.kickEngine, h]

theorem State.kickEngine_starting (s : State) (h : s.mode = .starting) : s.kickEngine = s := by
  simp [State.kickEngine, h]

theorem State.kickEngine_idle (s : State) (h : s.engine = .idle) (hm : s.mode ≠ .starting) :
    s.kickEngine = s.chooseTarget := by
  simp [State.kickEngine, h, hm]

theorem State.changeSlot_slot (s : State) (k : SlotIdx) (f : Slot → Option SlotWork → Slot) (j : SlotIdx) :
    (s.changeSlot k f).slot j = if k = j then f (s.slot k) (s.engine.workOn k) else s.slot j := by
  simp [State.changeSlot, State.setSlot_slot]

/-! ### Frames -/

/-- The low `n` bits of a word, most significant first, complete the word when the others have been read. -/
theorem wordsFrom_lowBits (w : Word) (rest : List Bool) (n : Nat) (h : n < 16) :
    wordsFrom (((List.range (n + 1)).map fun k => w.getLsbD (n - k)) ++ rest) (15 - n) (w.toNat / 2 ^ (n + 1)) =
      w :: wordsFrom rest 0 0 := by
  have bit : ∀ i, 2 * (w.toNat / 2 ^ (i + 1)) + (w.getLsbD i).toNat = w.toNat / 2 ^ i := by
    intro i
    rw [BitVec.getLsbD, Nat.testBit_eq_decide_div_mod_eq, pow_succ, ← Nat.div_div_eq_div_mul]
    rcases Nat.mod_two_eq_zero_or_one (w.toNat / 2 ^ i) with e | e <;> simp [e] <;> omega
  induction n with
  | zero =>
    have := bit 0
    simp only [Nat.zero_add, pow_zero, Nat.div_one] at this
    rw [List.range_one, List.map_singleton, List.singleton_append, wordsFrom, if_pos (by omega), this]
    simp
  | succ n ih =>
    rw [List.range_succ_eq_map, List.map_cons, List.map_map, List.cons_append]
    have e : ((fun k => w.getLsbD (n + 1 - k)) ∘ Nat.succ) = fun k => w.getLsbD (n - k) := by
      funext k
      simp
    rw [e, wordsFrom, if_neg (by omega), Nat.sub_zero, bit (n + 1)]
    rw [show 15 - (n + 1) + 1 = 15 - n by omega]
    exact ih (by omega)

/-- Sixteen bits of a word, most significant first, are read back as the word (R157, R158). -/
theorem wordsFrom_wordBits (w : Word) (rest : List Bool) :
    wordsFrom (wordBits w ++ rest) 0 0 = w :: wordsFrom rest 0 0 := by
  have h := wordsFrom_lowBits w rest 15 (by omega)
  rwa [Nat.div_eq_of_lt w.isLt] at h

/-- The bits of words are read back as the words (R158). -/
theorem wordsOfBits_flatMap (ws : List Word) (rest : List Bool) :
    wordsOfBits (ws.flatMap wordBits ++ rest) = ws ++ wordsOfBits rest := by
  unfold wordsOfBits
  induction ws with
  | nil => rfl
  | cons w ws ih => simp only [List.flatMap_cons, List.append_assoc, wordsFrom_wordBits, ih, List.cons_append]

/-- A frame drives as many levels as it is asked for (R159). -/
theorem shiftedOut_length (words : List Word) (n : Nat) : (shiftedOut words n).length = n := by
  simp [shiftedOut]

theorem wordBits_length (w : Word) : (wordBits w).length = 16 := by simp [wordBits]

theorem wordBits_getElem? (w : Word) (j : Nat) (h : j < 16) : (wordBits w)[j]? = some (w.getLsbD (15 - j)) := by
  simp [wordBits, h]

theorem flatMap_wordBits_length (ws : List Word) : (ws.flatMap wordBits).length = 16 * ws.length := by
  induction ws with
  | nil => rfl
  | cons w ws ih => rw [List.flatMap_cons, List.length_append, ih, wordBits_length, List.length_cons]; omega

/-- The bits of words, sixteen to a word and most significant first (R157). -/
theorem flatMap_wordBits_getElem? (words : List Word) (k : Nat) (h : k < 16 * words.length) :
    (words.flatMap wordBits)[k]? = some ((words.getD (k / 16) 0).getLsbD (15 - k % 16)) := by
  induction words generalizing k with
  | nil => simp at h
  | cons w ws ih =>
    rw [List.flatMap_cons]
    by_cases hk : k < 16
    · rw [List.getElem?_append_left (by rw [wordBits_length]; exact hk), wordBits_getElem? w k hk,
        Nat.div_eq_of_lt hk, Nat.mod_eq_of_lt hk, List.getD_cons_zero]
    · obtain ⟨j, rfl⟩ : ∃ j, k = j + 16 := ⟨k - 16, by omega⟩
      rw [List.length_cons] at h
      rw [List.getElem?_append_right (by rw [wordBits_length]; omega), wordBits_length, Nat.add_sub_cancel,
        ih j (by omega), Nat.add_div_right j (by decide), Nat.add_mod_right, List.getD_cons_succ]

/-- Each level LDO is driven to: the reply's bits, then zeros (R157, R159). -/
theorem shiftedOut_getElem? (words : List Word) (n k : Nat) (h : k < n) :
    (shiftedOut words n)[k]? = some ((words.getD (k / 16) 0).getLsbD (15 - k % 16)) := by
  have hl := flatMap_wordBits_length words
  rw [shiftedOut, List.getElem?_take_of_lt h]
  by_cases hk : k < 16 * words.length
  · rw [List.getElem?_append_left (by omega), flatMap_wordBits_getElem? words k hk]
  · rw [List.getElem?_append_right (by omega), List.getElem?_replicate_of_lt (by omega),
      List.getD_eq_default _ _ (by omega)]
    simp

theorem wordsFrom_short (bits : List Bool) (count sofar : Nat) (h : bits.length + count < 16) :
    wordsFrom bits count sofar = [] := by
  induction bits generalizing count sofar with
  | nil => rfl
  | cons b bs ih =>
    rw [List.length_cons] at h
    rw [wordsFrom, if_neg (by omega), ih _ _ (by omega)]

/-- Fewer than sixteen bits complete no word (R158). -/
theorem wordsOfBits_short (bits : List Bool) (h : bits.length < 16) : wordsOfBits bits = [] :=
  wordsFrom_short bits 0 0 (by omega)

/-- Sixteen bits are the bits of some word. -/
theorem exists_wordBits (bits : List Bool) (h : bits.length = 16) : ∃ w : Word, wordBits w = bits := by
  refine ⟨(BitVec.ofBoolListBE bits).setWidth 16, List.ext_getElem? fun k => ?_⟩
  by_cases hk : k < 16
  · rw [wordBits_getElem? _ k hk, List.getElem?_eq_getElem (by omega)]
    simp [h, show 15 - (15 - k) = k by omega, show 15 - k < 16 by omega]
  · rw [List.getElem?_eq_none (by rw [wordBits_length]; omega), List.getElem?_eq_none (by omega)]

/-- The words of a frame are its bits, sixteen to a word and most significant first; the rest is dropped (R157,
R158). -/
theorem wordsOfBits_spec (bits : List Bool) : ∃ tail, tail.length < 16 ∧
    bits = (wordsOfBits bits).flatMap wordBits ++ tail := by
  induction h : bits.length using Nat.strong_induction_on generalizing bits with
  | _ n ih =>
    by_cases hs : n < 16
    · exact ⟨bits, by omega, by rw [wordsOfBits_short bits (by omega)]; rfl⟩
    · obtain ⟨w, hw⟩ := exists_wordBits (bits.take 16) (by rw [List.length_take]; omega)
      obtain ⟨tail, ht, e⟩ := ih (n - 16) (by omega) (bits.drop 16) (by rw [List.length_drop, h])
      refine ⟨tail, ht, ?_⟩
      have hb : bits = [w].flatMap wordBits ++ bits.drop 16 := by
        rw [List.flatMap_singleton, hw, List.take_append_drop]
      rw [hb, wordsOfBits_flatMap, List.flatMap_append, List.append_assoc, ← e, ← hb]

theorem wordsOfBits_length (bits : List Bool) : (wordsOfBits bits).length = bits.length / 16 := by
  obtain ⟨tail, ht, e⟩ := wordsOfBits_spec bits
  have := congrArg List.length e
  rw [List.length_append, flatMap_wordBits_length] at this
  omega

/-- Bit by bit: the word with this place holds its sixteen bits of the frame (R157). -/
theorem wordsOfBits_getElem? (bits : List Bool) (k : Nat) (w : Word) (h : (wordsOfBits bits)[k]? = some w) (j : Nat)
    (hj : j < 16) : bits[16 * k + j]? = some (w.getLsbD (15 - j)) := by
  obtain ⟨tail, -, e⟩ := wordsOfBits_spec bits
  obtain ⟨hk, -⟩ := List.getElem?_eq_some_iff.1 h
  rw [e, List.getElem?_append_left (by rw [flatMap_wordBits_length]; omega),
    flatMap_wordBits_getElem? _ _ (by omega), Nat.mul_add_div (by decide), Nat.div_eq_of_lt hj, Nat.add_zero,
    List.getD_eq_getElem?_getD, h, Nat.mul_add_mod, Nat.mod_eq_of_lt hj, Option.getD_some]

/-- The link unit after a frame it received, in the words of the manual (R157 to R160). -/
theorem Link.received_eq (l : Link) (bits : List Bool) : l.received bits = { l with
    phase := .idle, buffer := (wordsOfBits bits).take 10, wordCount := (wordsOfBits bits).length,
    lateNonzero := decide (∃ w ∈ (wordsOfBits bits).drop 10, w ≠ 0),
    reply := if wordsOfBits bits = [] then l.reply else none,
    ldo := none, ldoBits := shiftedOut l.shiftOut (bits.length + 1),
    ldoRead := shiftedOut l.shiftOut bits.length, lselLow := false } := by
  simp [Link.received, Config.bufferWords, List.any_eq]

/-- In a frame that a start voided, every bit the master reads after the start is 0 (R163). -/
theorem Link.riseIdle_ldoRead (l : Link) (ldi : Clocked) (h : l.lselLow = true) (k : Nat) (hk : k < ldi.ignored) :
    (l.riseIdle ldi).ldoRead[ldi.bits.length + k]? = some false := by
  rw [Link.riseIdle, if_pos h, List.getElem?_append_right (by rw [shiftedOut_length]; omega), shiftedOut_length,
    Nat.add_sub_cancel_left, List.getElem?_replicate_of_lt hk]

/-- A frame end on a link that receives: the link as the frame leaves it, then the frame is taken if it holds a word
(R158, R160, R161). -/
theorem State.riseLsel_receiving (s : State) (m : Master) (bits : List Bool) (ignored : Nat)
    (hs : s.pins.supply = true) (hp : (s.link m).phase = .receiving) :
    s.riseLsel m ⟨bits, ignored⟩ = if wordsOfBits bits = [] then s.setLink m ((s.link m).received bits)
      else (s.setLink m ((s.link m).received bits)).takeFrame m := by
  simp [State.riseLsel, State.endFrame, hs, hp]

/-! ### The hits of a check on the watch list -/

/-- A watch record after a check: an ARMED record the check hits counts it (R112). -/
theorem State.hitWatch_watch (s : State) (m : Master) (a : Access) (v : Verdict) (k j : WatchIdx) :
    (s.hitWatch m a v k).watch j = if k = j then
      match s.watch k with
      | .armed w => .armed (if w.hitBy m a then w.afterHit m a v else w)
      | .free => .free
    else s.watch j := by
  unfold State.hitWatch
  cases hk : s.watch k with
  | free =>
    by_cases e : k = j
    · simp [WatchRecord.watch, ← e, hk]
    · simp [WatchRecord.watch, e]
  | armed w =>
    by_cases e : k = j
    · subst e
      cases hh : w.hitBy m a <;> simp [WatchRecord.watch, hh, hk]
    · cases hh : w.hitBy m a <;> simp [WatchRecord.watch, hh, e, State.setWatch_watch]

/-- A record's notices after a check met one watch: WATCH is raised for the owner of a watch it hits (R112). -/
theorem State.hitWatch_notice (s : State) (m : Master) (a : Access) (v : Verdict) (k : WatchIdx) (j : Master) :
    (s.hitWatch m a v k).notice j =
      if (s.watch k).watch.any (fun w => decide (w.owner = j) && w.hitBy m a) then (s.raise j .watch).notice j
      else s.notice j := by
  unfold State.hitWatch
  cases hk : (s.watch k).watch with
  | none => simp
  | some w =>
    by_cases e : w.owner = j
    · subst e
      cases hh : w.hitBy m a <;> simp [hh, State.raise_notice]
    · cases hh : w.hitBy m a <;> simp [hh, e, State.raise_notice]

/-- A second raise of a flag changes nothing. -/
theorem State.raise_notice_congr (s t : State) (j : Master) (f : Flag) (hm : t.mode = s.mode)
    (hn : t.notice j = s.notice j ∨ t.notice j = (s.raise j f).notice j) :
    (t.raise j f).notice j = (s.raise j f).notice j := by
  rcases hn with hn | hn
  · simp [State.raise_notice, hn, hm]
  · rw [State.raise_notice, if_pos rfl, hn, hm]
    simp [State.raise_notice, Notice.refresh, Notice.level, BitVec.or_assoc]

/-- The walk of a check over a list of watch records, each met once: what it makes of every record of the list, and
whose notices it raises (R112). -/
theorem foldl_hitWatch (m : Master) (a : Access) (v : Verdict) (l : List WatchIdx) (s : State) (hl : l.Nodup) :
    let t := l.foldl (fun t k => t.hitWatch m a v k) s
    (∀ j, j ∉ l → t.watch j = s.watch j) ∧ (∀ j ∈ l, t.watch j = (s.hitWatch m a v j).watch j) ∧
    ∀ j, t.notice j =
      if l.any fun k => (s.watch k).watch.any fun w => decide (w.owner = j) && w.hitBy m a then
        (s.raise j .watch).notice j
      else s.notice j := by
  induction l generalizing s with
  | nil => simp
  | cons k l ih =>
    obtain ⟨hk, hl⟩ := List.nodup_cons.1 hl
    obtain ⟨h1, h2, h3⟩ := ih (s.hitWatch m a v k) hl
    have hw : ∀ j ∈ l, (s.hitWatch m a v k).watch j = s.watch j := fun j hj => by
      rw [State.hitWatch_watch, if_neg (by rintro rfl; exact hk hj)]
    refine ⟨fun j hj => ?_, fun j hj => ?_, fun j => ?_⟩
    · rw [List.mem_cons, not_or] at hj
      rw [List.foldl_cons, h1 j hj.2, State.hitWatch_watch, if_neg (Ne.symm hj.1)]
    · rcases List.mem_cons.1 hj with rfl | hj
      · exact h1 j hk
      · rw [List.foldl_cons, h2 j hj, State.hitWatch_watch _ m a v j j, hw j hj, State.hitWatch_watch s m a v j j]
    · have ha : (l.any fun i => ((s.hitWatch m a v k).watch i).watch.any fun w => decide (w.owner = j) && w.hitBy m a) =
          l.any fun i => (s.watch i).watch.any fun w => decide (w.owner = j) && w.hitBy m a := by
        rw [Bool.eq_iff_iff, List.any_eq_true, List.any_eq_true]
        exact exists_congr fun i => and_congr_right fun hi => by rw [hw i hi]
      have hn := s.hitWatch_notice m a v k j
      rw [List.foldl_cons, h3 j, ha, List.any_cons]
      cases hx : (s.watch k).watch.any (fun w => decide (w.owner = j) && w.hitBy m a) <;>
        simp only [hx, if_true, Bool.false_eq_true, if_false] at hn <;>
        simp only [Bool.false_or, Bool.true_or, if_true]
      · rw [hn, State.raise_notice_congr s _ j .watch (by simp) (.inl hn)]
      · rw [hn, State.raise_notice_congr s _ j .watch (by simp) (.inr hn), ite_self]

/-- What the hits of a check make of every watch record and every master's notices (R112); a check denied NOT_READY is
a hit on none. -/
theorem State.hitWatches_watch (s : State) (m : Master) (a : Access) (v : Verdict) (hv : v.reason ≠ some .notReady)
    (j : WatchIdx) : (s.hitWatches m a v).watch j = (s.hitWatch m a v j).watch j := by
  rw [State.hitWatches, if_neg hv]
  exact (foldl_hitWatch m a v _ s (List.nodup_finRange 8)).2.1 j (List.mem_finRange j)

theorem State.hitWatches_notice (s : State) (m : Master) (a : Access) (v : Verdict) (hv : v.reason ≠ some .notReady)
    (j : Master) : (s.hitWatches m a v).notice j =
      if (List.finRange 8).any fun k => (s.watch k).watch.any fun w => decide (w.owner = j) && w.hitBy m a then
        (s.raise j .watch).notice j
      else s.notice j := by
  rw [State.hitWatches, if_neg hv]
  exact (foldl_hitWatch m a v _ s (List.nodup_finRange 8)).2.2 j

end Sys2Proof.Machine
end

