-- ==== Sys2Proof/Laws/Requests.lean ====
section
/-! SUPPORT. Requests in the words of claims: the tests after the session renewal, the handle a request names, the
operands a word carries, and the layouts of reply words field by field. -/

namespace Sys2Proof.Machine

/-! ### After the session renewal (R67) -/

@[simp] theorem State.renewSession_partGate (s : State) (m k : Master) :
    (s.renewSession m).partGate k = s.partGate k := by simp [State.partGate]

@[simp] theorem State.renewSession_readyGate (s : State) (m : Master) :
    (s.renewSession m).readyGate = s.readyGate := by simp [State.readyGate]

@[simp] theorem State.renewSession_sessionGate (s : State) (m : Master) :
    (s.renewSession m).sessionGate m = s.sessionGate m := by
  unfold State.sessionGate
  rw [State.renewSession_session]
  cases (s.session m).state <;> simp

@[simp] theorem State.renewSession_openGate (s : State) (m : Master) :
    (s.renewSession m).openGate m = s.openGate m := by simp [State.openGate]

@[simp] theorem State.renewSession_supervisorGate (s : State) (m : Master) :
    (s.renewSession m).supervisorGate m = s.supervisorGate m := by simp [State.supervisorGate]

@[simp] theorem State.renewSession_quota (s : State) (m k : Master) :
    ((s.renewSession m).session k).quota = (s.session k).quota := by
  rw [State.renewSession_session]; split <;> simp_all

@[simp] theorem State.renewSession_allowance (s : State) (m k : Master) :
    ((s.renewSession m).session k).allowance = (s.session k).allowance := by
  rw [State.renewSession_session]; split <;> simp_all

@[simp] theorem State.renewSession_ticketCounter (s : State) (m k : Master) :
    ((s.renewSession m).session k).ticketCounter = (s.session k).ticketCounter := by
  rw [State.renewSession_session]; split <;> simp_all

@[simp] theorem State.renewSession_lowest (s : State) (m : Master) (p : RecIdx → Window → Bool) :
    (s.renewSession m).lowest p = s.lowest p := by simp [State.lowest]

@[simp] theorem State.renewSession_recordsWhere (s : State) (m : Master) (p : RecIdx → Window → Bool) :
    (s.renewSession m).recordsWhere p = s.recordsWhere p := by simp [State.recordsWhere]

@[simp] theorem State.renewSession_findFree (s : State) (m : Master) : (s.renewSession m).findFree = s.findFree := by
  simp [State.findFree]

@[simp] theorem State.renewSession_blocker (s : State) (m : Master) (r : Region) :
    (s.renewSession m).blocker r = s.blocker r := by simp [State.blocker]

@[simp] theorem State.renewSession_waiterConflicts (s : State) (m : Master) (r : Region) :
    (s.renewSession m).waiterConflicts r = s.waiterConflicts r := by simp [State.waiterConflicts]

@[simp] theorem State.renewSession_resolve (s : State) (m : Master) (h : Word) :
    (s.renewSession m).resolve h = s.resolve h := by simp [State.resolve]

@[simp] theorem State.renewSession_summary (s : State) (m : Master) (i : RecIdx) (w : Window) :
    (s.renewSession m).summary i w = s.summary i w := by simp [State.summary, State.persistence, State.remaining]

/-- A session that is not OPEN is not renewed. -/
theorem State.renewSession_closed (s : State) (m : Master) (h : (s.session m).state.isOpen = false) :
    s.renewSession m = s := by
  unfold State.renewSession
  cases hx : (s.session m).state <;> simp_all [SessionState.isOpen]

/-- Outside STARTING the ready test passes (R118, R156). -/
theorem State.readyGate_none (s : State) (h : s.mode ≠ .starting) : s.readyGate = none := by
  unfold State.readyGate
  cases hm : s.mode <;> simp_all

/-- The supervisor tests pass for master 0 with an OPEN session (R82). -/
theorem State.supervisorGate_none (s : State) (h : s.takesOpen 0) : s.supervisorGate 0 = none := by
  simp [State.supervisorGate, State.partGate_none s 0 h.1, State.sessionGate_none s 0 h.2]

/-! ### Handles (R10) -/

theorem State.resolve_held (s : State) (h : Word) (w : Window) (hn : s.names h w) : s.resolve h = .held w := by
  simp [State.resolve, hn.1, hn.2]

theorem State.resolve_stale (s : State) (h : Word)
    (hg : (s.record (handleIndex h)).generation ≠ handleGeneration h) : s.resolve h = .stale := by
  simp [State.resolve, hg]

theorem State.resolve_gone (s : State) (h : Word) (cause : Option RetireCause)
    (hg : (s.record (handleIndex h)).generation = handleGeneration h)
    (hf : (s.record (handleIndex h)).holding = .free cause) : s.resolve h = .gone cause := by
  simp [State.resolve, hg, hf]

/-! ### Operand words -/

theorem masterOf_eq_some (w : Word) (t : Master) (h : w.toNat = t.val) : masterOf w = some t := by
  have := t.isLt
  unfold masterOf
  rw [dif_pos (by omega)]
  simp [h]

theorem masterOf_eq_none (w : Word) (h : 6 ≤ w.toNat) : masterOf w = none := by
  unfold masterOf
  rw [dif_neg (by omega)]

theorem watchOf_eq_some (w : Word) (k : WatchIdx) (h : w.toNat = k.val) : watchOf w = some k := by
  have := k.isLt
  unfold watchOf
  rw [dif_pos (by omega)]
  simp [h]

theorem watchOf_eq_none (w : Word) (h : 8 ≤ w.toNat) : watchOf w = none := by
  unfold watchOf
  rw [dif_neg (by omega)]

theorem slotOf_eq_some (w : Word) (k : SlotIdx) (h : w.toNat = k.val) : slotOf w = some k := by
  have := k.isLt
  unfold slotOf
  rw [dif_pos (by omega)]
  simp [h]

theorem slotOf_eq_none (w : Word) (h : 12 ≤ w.toNat) : slotOf w = none := by
  unfold slotOf
  rw [dif_neg (by omega)]

theorem checkMaster_eq_some (c : BitVec 3) (m : Master) (h : c.toNat = m.val) : checkMaster c = some m := by
  have := m.isLt
  unfold checkMaster
  rw [dif_pos (by omega)]
  simp [h]

theorem checkMaster_eq_none (c : BitVec 3) (h : 6 ≤ c.toNat) : checkMaster c = none := by
  unfold checkMaster
  rw [dif_neg (by omega)]

/-- The options word a claim's command carries keeps its encoding. -/
theorem ClaimOperands.command_optionsFormatOk (c : ClaimOperands) :
    optionsFormatOk (BitVec.ofNat 16 (4 * (if c.wait then 2 else 1) + (if c.mode = .write then 2 else 1))) = true := by
  obtain ⟨b, z, mode, wait, lease, limit⟩ := c
  cases mode <;> cases wait <;> simp [optionsFormatOk, optionsMode, optionsWait]

/-- The operands of a claim are read back from the words that carry them. -/
theorem ClaimOperands.command_operands (c : ClaimOperands) (hc : c.carried) :
    claimOperands (BitVec.ofNat 16 c.base) (BitVec.ofNat 16 c.size)
      (BitVec.ofNat 16 (4 * (if c.wait then 2 else 1) + (if c.mode = .write then 2 else 1)))
      (BitVec.ofNat 16 c.lease) (BitVec.ofNat 16 c.limit) = c := by
  obtain ⟨b, z, mode, wait, lease, limit⟩ := c
  simp only [ClaimOperands.carried] at hc
  have e : ∀ n, n < 65536 → (BitVec.ofNat 16 n).toNat = n := by intro n h; simp; omega
  simp only [claimOperands, e _ hc.1, e _ hc.2.1, e _ hc.2.2.1, e _ hc.2.2.2]
  cases mode <;> cases wait <;> simp [optionsMode, optionsWait]

/-- What a CLAIM does once the mode and session tests pass (R26 to R31). -/
theorem ClaimOperands.exec_command (c : ClaimOperands) (m : Master) (s : State) (hc : c.carried) (ho : s.takesOpen m) :
    exec (c.command m) s = .next ((claimAnswer m c (s.renewSession m)).state.placeReply m
      ⟨(claimAnswer m c (s.renewSession m)).status, 0x10, (claimAnswer m c (s.renewSession m)).results⟩) := by
  have hg := State.openGate_none s m ho
  simp only [ClaimOperands.command, exec, execClaim, whenPowered, ho.1.1, if_true, takeClaim, serve,
    ClaimOperands.command_optionsFormatOk, ClaimOperands.command_operands c hc, State.renewSession_openGate, hg,
    State.gated]

/-! ### Layouts of words -/

/-- The value of two fields side by side. -/
theorem toNat_fields {m n : Nat} (a : BitVec m) (b : BitVec n) : (a ++ b).toNat = a.toNat * 2 ^ n + b.toNat := by
  rw [BitVec.toNat_append, ← Nat.shiftLeft_add_eq_or_of_lt (BitVec.isLt _), Nat.shiftLeft_eq]

theorem toNat_ofBool_field (b : Bool) : (BitVec.ofBool b).toNat = b.toNat := by cases b <;> rfl

/-- A handle word is the generation above the index (section 11.4). -/
theorem handleWord_fields (i : RecIdx) (g : Byte) : handleWord i g = g ++ BitVec.ofNat 8 i.val := by
  have := i.isLt
  have := g.isLt
  apply BitVec.eq_of_toNat_eq
  rw [toNat_fields]
  simp [handleWord]
  omega

/-- The upper word of an address (section 11.4). -/
theorem word_addressHigh (a : Address) : word (a.toNat / 65536) = 0#8 ++ a.extractLsb' 16 8 := by
  have := a.isLt
  apply BitVec.eq_of_toNat_eq
  simp only [toNat_fields, word, BitVec.toNat_ofNat, BitVec.extractLsb'_toNat, Nat.shiftRight_eq_div_pow]
  omega

/-- The lower word of an address (section 11.4). -/
theorem word_addressLow (a : Address) : word (a.toNat % 65536) = a.extractLsb' 0 16 := by
  apply BitVec.eq_of_toNat_eq
  simp [word]

/-- The newest four of a failure list, as the part keeps them (R58). -/
theorem pushFailure_eq (l : List Failure) (f : Failure) : pushFailure l f = newestFour l f := by
  simp [pushFailure, newestFour, Config.maxFailures]

/-- The lease kind of a window issued now, in the words of claims (R7). -/
theorem State.leaseFor_eq (s : State) (n : Option Nat) : s.leaseFor n = s.issuedKind n := by cases n <;> rfl

/-! ### Failure lists -/

theorem State.waitFail_failureList (s : State) (c : FailCause) (e : Waiter) (m : Master) :
    (s.waitFail c e).failureList m =
      if e.master = m then newestFour (s.failureList m) ⟨e.ticket, c⟩ else s.failureList m := by
  by_cases h : e.master = m
  · subst h
    simp [State.waitFail, pushFailure_eq]
  · simp [State.waitFail, State.setFailureList_failureList, h]

/-- A removal with a cause adds the removed waiters of a master to its list, in arrival order (R58, R63, R64). -/
theorem foldl_waitFail_failureList (c : FailCause) (l : List Waiter) (s : State) (m : Master) :
    (l.foldl (fun t e => t.waitFail c e) s).failureList m =
      ((l.filter fun e => e.master = m).map fun e => Failure.mk e.ticket c).foldl newestFour (s.failureList m) := by
  induction l generalizing s with
  | nil => rfl
  | cons e l ih =>
    rw [List.foldl_cons, ih, State.waitFail_failureList]
    by_cases h : e.master = m <;> simp [h]

theorem State.removeWaiters_failureList (s : State) (c : FailCause) (p : Waiter → Bool) (m : Master) :
    (s.removeWaiters (some c) p).failureList m =
      ((s.queue.filter fun e => p e && decide (e.master = m)).map fun e => Failure.mk e.ticket c).foldl newestFour
        (s.failureList m) := by
  rw [State.removeWaiters, foldl_waitFail_failureList, List.filter_filter]
  simp [Bool.and_comm]

theorem State.lackOfRoom_cause (s : State) (m : Master) (n : Nat) (c : FailCause) (h : s.lackOfRoom m n = some c) :
    c = .quota ∨ c = .limit := by
  unfold State.lackOfRoom at h
  split at h
  · exact .inr (Option.some.inj h).symm
  · split at h
    · exact .inl (Option.some.inj h).symm
    · cases h

/-- What the grant scan adds to a failure list: waiters of that master with cause QUOTA or LIMIT, in order (R55,
R58). -/
theorem scanFrom_failureList (older rest : List Waiter) (s : State) (m : Master) : ∃ bound : List Failure,
    (scanFrom older rest s).failureList m = bound.foldl newestFour (s.failureList m) ∧
    ∀ f ∈ bound, (f.cause = .quota ∨ f.cause = .limit) ∧ ∃ e ∈ rest, e.master = m ∧ e.ticket = f.ticket := by
  induction rest generalizing older s with
  | nil => exact ⟨[], by simp [scanFrom], nofun⟩
  | cons e rest ih =>
    have wider : ∀ f : Failure, (∃ x ∈ rest, x.master = m ∧ x.ticket = f.ticket) →
        ∃ x ∈ e :: rest, x.master = m ∧ x.ticket = f.ticket :=
      fun f ⟨x, hx, h⟩ => ⟨x, List.mem_cons_of_mem e hx, h⟩
    unfold scanFrom
    split
    · exact ⟨[], by simp, nofun⟩
    · split
      · obtain ⟨b, hb, hf⟩ := ih (older ++ [e]) s
        exact ⟨b, hb, fun f h => ⟨(hf f h).1, wider f (hf f h).2⟩⟩
      · split
        · next c hc =>
          obtain ⟨b, hb, hf⟩ := ih older (s.waitFail c e)
          rw [State.waitFail_failureList] at hb
          by_cases h : e.master = m
          · refine ⟨⟨e.ticket, c⟩ :: b, by rw [hb, if_pos h, List.foldl_cons], fun f hm => ?_⟩
            rcases List.mem_cons.1 hm with rfl | hm
            · exact ⟨s.lackOfRoom_cause _ _ c hc, e, List.mem_cons_self, h, rfl⟩
            · exact ⟨(hf f hm).1, wider f (hf f hm).2⟩
          · exact ⟨b, by rw [hb, if_neg h], fun f hm => ⟨(hf f hm).1, wider f (hf f hm).2⟩⟩
        · next =>
          obtain ⟨b, hb, hf⟩ := ih older _
          rw [State.raise_failureList, State.issue_failureList] at hb
          exact ⟨b, hb, fun f h => ⟨(hf f h).1, wider f (hf f h).2⟩⟩

/-- The counter's next value: the first of the values after it, 1 after 65535, that is not in use, as far as `fuel`
lets it pass over those that are (R49). -/
theorem nextTicket_spec (used : List Word) (fuel : Nat) (t : Word) :
    let later := fun n : Nat => (fun t : Word => if t = 65535 then 1 else t + 1)^[n + 1] t
    ∃ n, nextTicket used fuel t = later n ∧ ∀ k, k < n → later k ∈ used := by
  induction fuel generalizing t with
  | zero => exact ⟨0, rfl, fun k hk => absurd hk (Nat.not_lt_zero k)⟩
  | succ fuel ih =>
    unfold nextTicket
    split
    · next h =>
      obtain ⟨n, h1, h2⟩ := ih (succTicket t)
      refine ⟨n + 1, h1, fun k hk => ?_⟩
      cases k with
      | zero => exact h
      | succ k => exact h2 k (by omega)
    · exact ⟨0, rfl, fun k hk => absurd hk (Nat.not_lt_zero k)⟩

end Sys2Proof.Machine
end

