-- ==== Sys2Proof/Tests/Slice0.lean ====
section
/-! SUPPORT. The model's own tests: ill-formed requests, what commands do on small states with values of the manual's
worked sequences, and for every statement with hypotheses the states and operands that meet them. -/

namespace Sys2Proof.Tests

open Machine

/-! ### Small states -/

/-- A RUNNING part with the boot band 1, tick 1000 and every session OPEN with period 500 and deadline 1500. -/
def ready : State :=
  { State.reset with
    clock := some 1000
    sessions := Vector.ofFn fun m => { Session.atStart m with state := .opened 500 1500 }
    startUp := ⟨.running, .power, false, 0, 0, false, false⟩
    band := ⟨1, none, .valid 1, false⟩ }

/-- The part in MAINTENANCE. -/
def service : State := ready.setStartUp ⟨.maintenance, .line, true, 0, 0, false, false⟩

/-- The part with every session in this state. -/
def silent (x : SessionState) : State :=
  { ready with sessions := Vector.ofFn fun m => { Session.atStart m with state := x } }

/-- A LIVE SESSION window. -/
def plain (m : Master) (base size : Nat) (mode : AccessMode) : Window :=
  ⟨m, base, size, mode, .session, none, 0, false⟩

/-- The window with a lease of 800 ticks that ends at 1100. -/
def leased (w : Window) : Window := { w with kind := .timed ⟨800, 1100, false⟩ }

/-- The window, DRAINING until 1050. -/
def drained (w : Window) : Window := { w with drain := some ⟨1050, .revoked⟩ }

/-- The record holds the window at generation 1, and its owner's tallies count it. -/
def holding (i : RecIdx) (w : Window) (s : State) : State :=
  (s.setRecord i ⟨1, .held w⟩).setTally w.owner ((s.tally w.owner).add w)

/-- A waiter for granules 100 to 104, READ, SESSION, with a wait limit that ends at 1020. -/
def waiting (m : Master) (t : Word) : Waiter := ⟨m, t, 100, 5, .read, none, some 1020⟩

/-- An image with its check value. -/
def image (o b n : Nat) (mode : AccessMode) : Image := ⟨o, b, n, some mode, Config.imageCheck o b n (some mode)⟩

/-- Master 1 holds granules 100 to 109 WRITE in record 0. -/
def one : State := holding 0 (plain 1 100 10 .write) ready

/-- Master 1's window, with two waiters of masters 2 and 3 behind it. -/
def queued : State := one.setQueue [waiting 2 1, waiting 3 1]

/-- Master 3's window stands in slot 0, VALID. -/
def stood : State := (holding 0 { plain 3 300 8 .read with kind := .standing 0 } ready).setSlot 0
  ⟨.valid (image 3 300 8 .read), some 0, .none⟩

/-- The same window while its slot's first write has not begun. -/
def unwritten : State := stood.setSlot 0 ⟨.blank, some 0, .writeDue⟩

/-- Every record holds a window of master 5. -/
def full : State := { ready with table := Vector.replicate 64 ⟨1, .held (plain 5 16000 1 .read)⟩ }

/-- Windows of every lease kind, one DRAINING, with a waiter, a watch and a full deny latch. -/
def busy : State :=
  { (holding 3 (drained (plain 1 400 4 .read)) (holding 2 { plain 3 300 8 .read with kind := .standing 0 }
      (holding 1 (leased (plain 2 200 20 .read)) one))) with
    queue := [⟨2, 1, 100, 5, .read, none, some 1020⟩]
    sessions := ready.sessions.set 2 { ready.session 2 with ticketCounter := 2 }
    slots := ready.slots.set 0 ⟨.valid (image 3 300 8 .read), some 2, .none⟩
    watches := ready.watches.set 0 (.armed ⟨4, 100, 10, .writes, 0, none⟩)
    notices := ready.notices.set 2 ⟨0x040, 0x040, true, some ⟨0x001000, 1, .write, .reserved⟩, false, true⟩ }

/-- A link that receives a frame of master 2. -/
def receiving : State := ready.setLink 2 { ready.link 2 with phase := .receiving, lselLow := true }

/-- The link after a start voided its frame while LDO was to shift out the reply of a NOP. -/
def voided : State := ready.setLink 2
  { ready.link 2 with lselLow := true, shiftOut := [0x0101, 0, 0xFEFE], ldo := some false }

/-- The bits of words. -/
def frame (ws : List Word) : List Bool := ws.flatMap wordBits

/-- A part whose window stands in slot 0 while the engine does this. -/
def working (e : Engine) : State := stood.setEngine e

/-- A part in STARTING whose engine does this. -/
def restoring (e : Engine) : State := { State.reset with engine := e, startUp := .begin .line false }

/-- The state a command leaves. -/
def after (o : Host.Outcome State Fault Refusal) : State := match o with
  | .next s => s
  | .fault _ | .refused _ => State.reset

/-- The status and results a request is answered with. -/
def replies (i : Instr) (m : Master) (s : State) : Option (Status × List Word) :=
  ((after (exec i s)).link m).reply.map fun r => (r.status, r.results)

/-- A condition that no record in force meets. -/
theorem none_of {s : State} {p : RecIdx → Window → Prop} [∀ i w, Decidable (p i w)]
    (h : s.lowest (fun i w => decide (p i w)) = none) : s.noneInForce p := by
  simpa using (s.lowest_eq_none _).1 h

/-- The lowest record in force that meets a condition. -/
theorem lowest_of {s : State} {p : RecIdx → Window → Prop} [∀ i w, Decidable (p i w)] {i : RecIdx}
    (h : s.lowest (fun i w => decide (p i w)) = some i) : s.isLowest p i := by
  simpa using (s.lowest_eq_some _ i).1 h

/-! ### Ill-formed requests, one for each format test (R162) -/

theorem test_illformed_claims :
    replies (.claim 1 100 10 4 0 0) 1 ready = some (.badOperand, []) ∧
    replies (.claim 1 100 10 7 0 0) 1 ready = some (.badOperand, []) ∧
    replies (.claim 1 100 10 1 0 0) 1 ready = some (.badOperand, []) ∧
    replies (.claim 1 100 10 0x15 0 0) 1 ready = some (.badOperand, []) := by
  decide

theorem test_illformed_names :
    replies (.release 1 0x0140) 1 one = some (.badOperand, []) ∧
    replies (.query 1 0x0000) 1 one = some (.badOperand, []) ∧
    replies (.ticket 1 0) 1 ready = some (.badOperand, []) ∧
    replies (.watchSet 1 100 1 4) 1 ready = some (.badOperand, []) ∧
    replies (.noticeAck 1 0x1000) 1 ready = some (.badOperand, []) ∧
    replies (.noticeEnable 1 0 2) 1 ready = some (.badOperand, []) := by
  decide

theorem test_illformed_terms :
    [Instr.claim 1 100 10 4 0 0, .renew 1 0x0040 1, .release 1 0x0000, .cancel 1 0, .watchSet 1 0 1 0,
      .noticeAck 1 0x8000, .noticeEnable 1 0 2].all (fun i => !i.wellFormed) = true := by decide

/-! ### Requests -/

theorem test_sessions :
    replies (.nop 1) 1 (silent .closed) = some (.ok, []) ∧
    replies (.openSession 3 10) 3 (silent .lapsed) = some (.ok, [1]) ∧
    (after (exec (.close 1) queued)).queue = [] ∧
    ((after (exec (.keepalive 2) (ready.setClock (some 1400)))).session 2).state = .opened 500 1900 ∧
    replies (.status 2) 2 one = some (.ok, [0xF005, 0, 0, 0x7F01, 0x003F, 0, 1000]) := by
  decide

theorem test_claims :
    replies (.claim 2 256 8 6 0 0) 2 ready = some (.ok, [0x0100]) ∧
    replies (.claim 2 109 8 5 0 0) 2 one = some (.conflict, [0]) ∧
    replies (.renew 2 0x0100 0) 2 (holding 0 (leased (plain 2 200 20 .read)) ready) = some (.ok, [800]) := by
  decide

theorem test_windows :
    ((after (exec (.release 1 0x0100) queued)).record 0).window =
      some ⟨2, 100, 5, .read, .session, none, 1, false⟩ ∧
    ((after (exec (.downgrade 1 0x0100) queued)).record 2).window =
      some ⟨3, 100, 5, .read, .session, none, 1, false⟩ ∧
    replies (.upgrade 3 0x0100) 3 (holding 1 (plain 2 307 1 .read) stood) = some (.conflict, [1]) := by
  decide

theorem test_reports :
    replies (.query 2 0x0100) 2 (holding 0 (plain 2 256 8 .write) ready) =
      some (.ok, [0x0100, 0x0100, 0x0008, 0x001A, 0, 0]) ∧
    replies (.list 0 0 1) 0 one = some (.ok, [64, 0x0100, 100, 10, 0x0019, 0]) := by
  decide

theorem test_tickets :
    (after (exec (.cancel 2 1) queued)).queue = [waiting 3 1] ∧
    replies (.ticket 3 1) 3 queued = some (.queued, [2, 20]) := by
  decide

theorem test_standing :
    replies (.stand 0 0x0100) 0 (holding 0 (plain 0 200 4 .read) stood) = some (.ok, [1]) ∧
    replies (.unstand 3 0x0100) 3 stood = some (.ok, [0, 2]) := by
  decide

theorem test_watches :
    replies (.watchSet 1 900 16 2) 1 busy = some (.ok, [1]) ∧
    replies (.watchClear 4 0) 4 busy = some (.ok, [0]) ∧
    replies (.watchRead 4 0) 4 busy = some (.ok, [0x24, 100, 10, 0, 0, 0, 0]) := by
  decide

theorem test_notices :
    replies (.noticeRead 2) 2 busy = some (.ok, [0x40, 0x40, 0x014B, 0, 0x1000]) ∧
    (after (exec (.noticeAck 2 0x40) busy)).notice 2 = ⟨0, 0x40, true, none, false, false⟩ ∧
    (after (exec (.noticeEnable 1 0xFFF 1) ready)).notice 1 = ⟨0, 0x3FF, true, none, false, false⟩ := by
  decide

theorem test_supervisor :
    replies (.quota 0 3 40 2) 0 ready = some (.ok, [4096, 0]) ∧
    replies (.revoke 0 0x0100 100) 0 one = some (.ok, [100]) ∧
    replies (.evict 0 1) 0 one = some (.ok, [1, 0]) ∧
    (after (exec (.restart 0) one)).engine = .reading .band ∧
    replies (.band 0 2 0) 0 one = some (.ok, [2, 1, 0]) ∧
    replies (.purge 0 0) 0 (stood.setStartUp service.startUp) = some (.ok, [0, 2]) := by
  decide

/-! ### Links: the frames of the worked sequence "a frame exchange on link 2" -/

theorem test_links :
    ((after (exec (.frameEnd 2 ⟨frame [0x1005, 0x0100, 0x0008, 0x0006, 0, 0, 0xEEEC], 0⟩) receiving)).link 2).reply.map Reply.words =
      some [0x0110, 0x0001, 0x0100, 0xFDEE] ∧
    ((after (exec (.frameEnd 2 ⟨frame [0x0100, 0xFEFE], 0⟩) receiving)).link 2).reply.map Reply.words =
      some [0x2101, 0, 0xDEFE] ∧
    ((after (exec (.lselFall 2) (ready.placeReply 2 ⟨.ok, 1, []⟩))).link 2).shiftOut = [0x0101, 0, 0xFEFE] ∧
    ((after (exec (.lselFall 2) ready)).link 2).ldo = some false := by
  decide

theorem test_ldo :
    ((after (exec (.frameEnd 2 ⟨List.replicate 15 true, 0⟩) (voided.setLink 2 { voided.link 2 with phase := .receiving }))).link
      2).ldoBits = wordBits 0x0101 ∧
    ((after (exec (.frameEnd 2 ⟨List.replicate 7 true, 2⟩) voided)).link 2).ldoBits =
      [false, false, false, false, false, false, false, true, false, false, false] ∧
    wordsOfBits (((after (exec (.frameEnd 2 ⟨List.replicate 7 true, 16⟩) voided)).link 2).ldoRead.drop 7) = [0x0000] ∧
    ((after (exec (.frameEnd 2 ⟨[], 0⟩) voided)).link 2).ldo = none ∧
    Link.atStart { voided.link 2 with phase := .receiving } = voided.link 2 := by
  decide

/-! ### The check port -/

theorem test_check_port :
    (after (exec (.checkStrobe 1 0x019000 63 true) one)).check.out = ⟨true, true, 0, 0⟩ ∧
    (after (exec (.checkStrobe 1 0x00FFFF 0 true) one)).check.out = ⟨true, false, 4, 63⟩ ∧
    (after (exec .checkRelease (after (exec (.checkStrobe 1 0 0 false) one)))).check = CheckUnit.atStart := by
  decide

/-! ### Time -/

theorem test_time :
    (after (exec .tick ((silent .closed).setClock (some 0xFFFFFFFF)))).clock = some 0 ∧
    ((after (exec (.lapse 1) (one.setClock (some 1500)))).notice 0).has .peerlapse = true ∧
    (after (exec (.leaseExpiry 1) (busy.setClock (some 1100)))).record 1 = ⟨1, .free (some .expired)⟩ ∧
    ((after (exec (.leaselowWarning 1) busy)).notice 2).has .leaselow = true ∧
    (after (exec (.drainEnd 3) (busy.setClock (some 1050)))).record 3 = ⟨1, .free (some .revoked)⟩ ∧
    (after (exec (.waitExpiry 2 1) (busy.setClock (some 1020)))).failureList 2 = [⟨1, .timeout⟩] := by
  decide

/-! ### The store engine and the band cell -/

theorem test_engine :
    ((after (exec .slotEraseDone (working (.erasingForWrite 0 (image 3 300 8 .read) 0)))).slot 0).content =
      .blank ∧
    ((after (exec .slotProgramDone (working (.programmingSlot 0 (image 3 300 8 .read) 0)))).notice 3).has .stored =
      true ∧
    (after (exec .clearDone (working (.erasingForClear 5)))).engine = .idle ∧
    (after (exec .bandEraseDone (working (.erasingBand 2)))).engine = .programmingBand 2 ∧
    (after (exec .bandProgramDone (one.setEngine (.programmingBand 2)))).record 0 = ⟨1, .free (some .banded)⟩ ∧
    ((after (exec (.lossOfRetention 0 ⟨9, 0, 0, none, 0⟩) stood)).slot 0).content = .valid ⟨9, 0, 0, none, 0⟩ := by
  decide

/-! ### Starts -/

theorem test_starts :
    (after (exec .powerStart (one.setPins ⟨false, false, false, false⟩))).startUp = .begin .power true ∧
    (after (exec .powerOnHoldEnd State.reset)).engine = .reading .band ∧
    (after (exec .lineStart (working (.erasingForClear 5)))).slot 5 = ⟨.damaged, none, .none⟩ ∧
    (after (exec .resetRelease ((restoring .idle).setPins ⟨true, true, false, false⟩))).engine = .reading .band ∧
    (after (exec .supplyLoss (working (.programmingBand 2)))).band.cell = .damaged ∧
    (after (exec .bandCellRead ((restoring (.reading .band)).setBand ⟨0, none, .damaged, false⟩))).band =
      ⟨64, some 64, .damaged, true⟩ ∧
    (after (exec (.slotRead false) ((restoring (.reading (.slot 2))).setSlot 2 ⟨.damaged, none, .none⟩))).startUp.damaged =
      4 ∧
    (after (exec (.slotRead true) (restoring (.reading (.slot 11))))).mode = .maintenance := by
  decide +kernel

/-! ### States and operands that meet the hypotheses of the statements

One theorem for each statement that has any; each line meets one clause, at the edge of its range where it has one. -/

theorem test_meets_EveryStepAnswers : State.reset.pending = [] := rfl

theorem test_meets_RequestRenewsSession :
    requestParts (.nop 1) = some (1, 1, []) ∧ ready.pins.supply = true ∧ Instr.nop 1 ≠ .close 1 ∧
      (∀ w, Instr.nop 1 ≠ .evict 1 w) ∧ Instr.nop 1 ≠ .restart 1 ∧ (ready.session 1).state = .opened 500 1500 :=
  ⟨rfl, rfl, nofun, nofun, nofun, rfl⟩

theorem test_meets_RefusalChangesNothing :
    requestParts (.keepalive 1) = some (1, 5, []) ∧ (silent .closed).pins.supply = true ∧
      Instr.keepalive 1 ≠ .restart 1 ∧ replies (.keepalive 1) 1 (silent .closed) = some (.noSession, []) :=
  ⟨rfl, rfl, nofun, by decide⟩

theorem test_meets_PartModeTests :
    (requestParts (.status 1) = some (1, 2, []) ∧ State.reset.mode = .starting ∧ State.reset.pins.supply = true) ∧
    (requestParts (.keepalive 1) = some (1, 5, []) ∧ service.mode = .maintenance ∧ service.pins.supply = true ∧
      (Instr.keepalive 1).inMaintenance = false ∧ (Instr.keepalive 1).wellFormed = true) ∧
    (Instr.status 1).inMaintenance = true ∧ (Instr.status 1).wellFormed = true := by decide

theorem test_meets_SessionTests :
    ((silent .closed).takes 1 ∧ ((silent .closed).session 1).state = .closed ∧ (silent .lapsed).takes 1 ∧
      ((silent .lapsed).session 1).state = .lapsed ∧ (Instr.release 1 0x0100).testsSession = true ∧
      (Instr.release 1 0x0100).wellFormed = true ∧ (Instr.release 1 0x0100).isSupervisor = false) ∧
    (silent .closed).takes 0 ∧ (Instr.evict 0 1).testsSession = true ∧ (Instr.evict 0 1).wellFormed = true ∧
    ready.takes 1 ∧ (Instr.evict 1 1).isSupervisor = true ∧ (Instr.evict 1 1).wellFormed = true := by decide

theorem test_meets_FormatTests :
    requestParts (.release 1 0x0040) = some (1, 0x12, [0x0040]) ∧ ready.pins.supply = true ∧
      (Instr.release 1 0x0040).wellFormed = false := by decide

theorem test_meets_HandleTests :
    (one.takes 1 ∧ (one.session 1).state.isOpen = true ∧ (Instr.renew 1 0x0200 60000).wellFormed = true ∧
      (Instr.renew 1 0x0200 60000).handleInRange = some 0x0200 ∧ (one.record (handleIndex 0x0200)).generation ≠ 2) ∧
    ((Instr.query 1 0x0101).handleInRange = some 0x0101 ∧ (Instr.query 1 0x0101).testsSession = false ∧
      (ready.setRecord 1 ⟨1, .free (some .purged)⟩).record (handleIndex 0x0101) = ⟨1, .free (some .purged)⟩ ∧
      handleGeneration 0x0101 = 1) := by decide

theorem test_meets_FrameRoundTrip : requestParts (.cancel 5 0xFFFF) = some (5, 0x18, [0xFFFF]) := rfl

theorem test_meets_FrameEndTakesRequest :
    requestParts (.cancel 2 0xFFFF) = some (2, 0x18, [0xFFFF]) ∧ receiving.pins.supply = true ∧
      (receiving.link 2).phase = .receiving ∧ (List.replicate 15 true).length < 16 := by decide

theorem test_meets_FrameEndErrors :
    receiving.pins.supply = true ∧ (receiving.link 2).phase = .receiving ∧
    (wordsOfBits (frame [0x0109]) = [0x0109] ∧ 8 < (0x0109 : Word).toNat % 16) ∧
    (wordsOfBits (frame [0x0600, 0xF9FF]) = [0x0600, 0xF9FF] ∧ (0xF9FF : Word) = ~~~ 0x0600 ∧
      6 ∉ commandList.map Prod.fst) ∧
    (wordsOfBits (frame [0x0101, 0x0000, 0xFEFE]) = [0x0101, 0, 0xFEFE] ∧ (0xFEFE : Word) = ~~~ 0x0101 ∧
      1 ∈ commandList.map Prod.fst ∧ (1, 1) ∉ commandList) := by decide

theorem test_meets_LinkEdges :
    ready.pins.supply = true ∧ (ready.link 2).phase = .idle ∧ (receiving.link 2).phase = .receiving ∧
      (List.replicate 15 true).length < 16 ∧
      (voided.link 2).lselLow = true ∧ (voided.link 2).phase = .idle ∧ (ready.link 2).lselLow = false ∧
      (wordsOfBits (List.replicate 16 true))[0]? = some 0xFFFF := by decide

theorem test_meets_SessionRequests :
    ready.pins.supply = true ∧ ready.mode ≠ .starting ∧ ready.takesOpen 2 ∧
      ((9 : Word).toNat < 10 ∧ 60000 < (60001 : Word).toNat) ∧
      (10 ≤ (10 : Word).toNat ∧ (10 : Word).toNat ≤ 60000 ∧ ((silent .lapsed).session 2).state.isOpen = false ∧
        (silent .lapsed).takes 2) := by decide

theorem test_meets_SessionEndEffect :
    (busy.record 0).window = some (plain 1 100 10 .write) ∧ (plain 1 100 10 .write).isStanding = false ∧
      (busy.record 2).window = some { plain 3 300 8 .read with kind := .standing 0 } ∧
      RetireCause.closed.notice = none := by decide

theorem test_meets_SessionEndCommands :
    (one.takes 1 ∧ (one.session 1).state.isOpen = true ∧ ((silent .closed).session 1).state.isOpen = false) ∧
    (one.takesOpen 0 ∧ 6 ≤ (6 : Word).toNat ∧ (5 : Word).toNat = (5 : Master).val) ∧
    (one.session 1).state = .opened 500 1500 ∧ (one.setClock (some 1500)).clock = some 1500 ∧
    one.clock ≠ some 1500 := by decide

/-- A claim of granules 16374 to 16383 and one behind master 1's window. -/
def lastGranules : ClaimOperands := ⟨16374, 10, .write, false, 60000, 0⟩
/-- A WAIT claim that master 1's window holds back. -/
def behind : ClaimOperands := ⟨109, 5, .read, true, 0, 60000⟩

theorem test_meets_ClaimGranted :
    (lastGranules.carried ∧ one.takesOpen 2 ∧ lastGranules.inRange ∧ one.claimFits 2 lastGranules ∧ one.lowestFree 1) ∧
      one.claimClear lastGranules :=
  ⟨by decide, none_of (by decide), nofun⟩

theorem test_meets_ClaimRefused :
    (behind.carried ∧ one.takesOpen 2 ∧ 16384 < (⟨16384, 1, .read, false, 0, 0⟩ : ClaimOperands).base + 1 ∧
      60000 < (⟨0, 1, .read, false, 60001, 0⟩ : ClaimOperands).lease ∧
      (⟨63, 2, .read, false, 0, 0⟩ : ClaimOperands).inRange ∧ 63 < 64 * one.band.effective ∧
      24 ≤ ((one.setTally 2 ⟨0, 24⟩).tally 2).windows ∧ (one.session 2).quota < 0 + 4097 ∧
      lastGranules.inRange ∧ one.claimFits 2 lastGranules ∧ lastGranules.wait = false ∧
      one.claimFits 2 { behind with wait := false } ∧ full.claimFits 2 lastGranules ∧ full.tableFull ∧
      (∃ e ∈ (ready.setQueue [waiting 3 1]).queue,
        (⟨104, 1, .write⟩ : Region).conflicts e.region = true)) ∧
    one.isLowest (fun _ w => behind.region.conflicts w.region = true) 0 ∧
    ready.noneInForce (fun _ w => (⟨104, 1, .write⟩ : Region).conflicts w.region = true) ∧
    full.claimClear lastGranules :=
  ⟨by decide, lowest_of (by decide), none_of (by decide), none_of (by decide), nofun⟩

theorem test_meets_ClaimQueued :
    (behind.carried ∧ one.takesOpen 2 ∧ behind.inRange ∧ one.claimFits 2 behind ∧ behind.wait = true ∧
      full.claimFits 2 behind ∧ full.tableFull ∧ one.queue.length < 16 ∧
      4 ≤ (one.setQueue [waiting 2 1, waiting 2 2, waiting 2 3, waiting 2 4]).queue.countP
        (fun e => decide (e.master = 2)) ∧
      16 ≤ (one.setQueue (List.replicate 16 (waiting 3 1))).queue.length ∧
      (one.session 2).ticketCounter ≠ 65535) ∧ ¬ one.claimClear behind :=
  ⟨by decide, fun h => h.1 0 (plain 1 100 10 .write) rfl (by decide)⟩

theorem test_meets_RenewRequest :
    (60000 < (60001 : Word).toNat ∧ (60000 : Word).toNat ≤ 60000) ∧ handleFormatOk 0x0100 = true ∧
    (one.takesOpen 2 ∧ one.names 0x0100 (plain 1 100 10 .write)) ∧
    (holding 0 (drained (plain 1 100 10 .write)) ready).names 0x0100 (drained (plain 1 100 10 .write)) ∧
    (holding 0 (leased (plain 2 200 20 .read)) ready).names 0x0100 (leased (plain 2 200 20 .read)) ∧
    (leased (plain 2 200 20 .read)).kind = .timed ⟨800, 1100, false⟩ := by decide

theorem test_meets_ReleaseRequest :
    one.takesOpen 1 ∧ one.takesOpen 2 ∧ handleFormatOk 0x0100 = true ∧ one.names 0x0100 (plain 1 100 10 .write) ∧
    stood.takesOpen 3 ∧ stood.names 0x0100 { plain 3 300 8 .read with kind := .standing 0 } := by decide

theorem test_meets_ModeRequests :
    (one.takesOpen 1 ∧ one.takesOpen 2 ∧ handleFormatOk 0x0100 = true ∧ one.names 0x0100 (plain 1 100 10 .write) ∧
      stood.takesOpen 3 ∧ stood.names 0x0100 { plain 3 300 8 .read with kind := .standing 0 } ∧
      (holding 0 (drained (plain 1 100 10 .read)) ready).names 0x0100 (drained (plain 1 100 10 .read)) ∧
      (∃ e ∈ (stood.setQueue [{ waiting 2 1 with base := 307 }]).queue,
        (plain 3 300 8 .read).region.overlaps e.region = true)) ∧
    stood.noneInForce (fun j v => j ≠ 0 ∧ (plain 3 300 8 .read).region.overlaps v.region = true) ∧
    (holding 1 (plain 2 307 1 .read) stood).isLowest
      (fun j v => j ≠ 0 ∧ (plain 3 300 8 .read).region.overlaps v.region = true) 1 :=
  ⟨by decide, none_of (by decide), lowest_of (by decide)⟩

theorem test_meets_QueryReply :
    (silent .lapsed).takes 4 ∧ one.takes 4 ∧ handleFormatOk 0x0100 = true ∧
    one.names 0x0100 (plain 1 100 10 .write) ∧
    (drained (leased (plain 2 200 20 .read))).kind = .timed ⟨800, 1100, false⟩ ∧
    (drained (leased (plain 2 200 20 .read))).drain = some ⟨1050, .revoked⟩ ∧
    (stood.slot 0).content = .valid (image 3 300 8 .read) ∧ (stood.slot 0).mark = .none ∧
    stood.engine.workOn 0 = none ∧ (unwritten.slot 0).mark = .writeDue ∧
    (working (.erasingForClear 0)).engine.workOn 0 = some .clear ∧
    (working (.erasingForWrite 0 ⟨3, 300, 8, some .read, 0⟩ 0)).engine.workOn 0 = some .write ∧
    ((stood.setSlot 0 ⟨.blank, some 0, .none⟩).slot 0).binding ≠ none :=
  ⟨by decide, by decide, rfl, by decide, rfl, rfl, rfl, rfl, rfl, rfl, rfl, rfl, nofun⟩

theorem test_meets_ListReply :
    one.takes 1 ∧ 64 < (65 : Word).toNat ∧ 6 ≤ (6 : Word).toNat ∧ (64 : Word).toNat ≤ 64 ∧
      (5 : Word).toNat = (5 : Master).val := by decide

theorem test_meets_TicketRequests :
    (queued.takes 3 ∧ (1 : Word) ≠ 0 ∧ (queued.session 3).state.isOpen = true ∧
      queued.queue = [waiting 2 1] ++ waiting 3 1 :: [] ∧ (queued.queue.any fun e => decide (e.master = 3) &&
        decide (e.ticket = 1)) = true ∧ (ready.queue.any fun _ => true) = false ∧
      (ready.setFailureList 3 [⟨2, .quota⟩, ⟨1, .limit⟩]).failureList 3 = [⟨2, .quota⟩] ++ ⟨1, .limit⟩ :: [] ∧
      ready.failureList 3 = []) ∧
    (holding 0 { plain 3 300 8 .read with originTicket := 1 } ready).isLowest
      (fun _ w => w.owner = 3 ∧ w.originTicket = 1) 0 ∧
    ready.noneInForce (fun _ w => w.owner = 3 ∧ w.originTicket = 1) :=
  ⟨by decide, lowest_of (by decide), none_of (by decide)⟩

theorem test_meets_GrantScanWalk :
    full.tableFull ∧ one.lowestFree 1 ∧ (one.record 0).window = some (plain 1 100 10 .write) ∧
      (waiting 2 1).region.conflicts (plain 1 100 10 .write).region = true ∧
      24 ≤ ((ready.setTally 2 ⟨0, 24⟩).tally 2).windows ∧ ready.lowestFree 0 ∧
      (ready.session 2).quota < ((ready.setTally 2 ⟨4092, 1⟩).tally 2).usage + (waiting 2 1).size ∧
      ((ready.setTally 2 ⟨4091, 23⟩).tally 2).usage + (waiting 2 1).size ≤ (ready.session 2).quota := by
  decide

theorem test_meets_GrantScanFrame :
    (queued.record 0).window ≠ none ∧ (queued.record 1).window = none ∧ ∀ e ∈ queued.queue, e.master ≠ 1 := by
  decide

theorem test_meets_QuotaRequest :
    one.takesOpen 0 ∧ 6 ≤ (6 : Word).toNat ∧ 16384 < (16385 : Word).toNat ∧ 12 < (13 : Word).toNat ∧
      (1 : Word).toNat = (1 : Master).val ∧ (16384 : Word).toNat ≤ 16384 ∧ (12 : Word).toNat ≤ 12 ∧
      (9 : Word).toNat < (one.tally 1).usage ∧ (one.tally 1).usage ≤ (10 : Word).toNat := by decide

theorem test_meets_RevokeRequest :
    one.takesOpen 0 ∧ handleFormatOk 0x0100 = true ∧ 60000 < (60001 : Word).toNat ∧
      one.names 0x0100 (plain 1 100 10 .write) ∧ 1 ≤ (1 : Word).toNat ∧ (60000 : Word).toNat ≤ 60000 ∧
      (plain 1 100 10 .write).drain = none ∧
      (holding 0 (drained (plain 1 100 10 .read)) ready).names 0x0100 (drained (plain 1 100 10 .read)) := by
  decide

theorem test_meets_BandRequest :
    one.takesOpen 0 ∧ service.takesOpen 0 ∧ 64 < (65 : Word).toNat ∧ 60000 < (60001 : Word).toNat ∧
      (64 : Word).toNat ≤ 64 ∧ one.mode = .running ∧ (0 : Word).toNat < one.band.effective ∧
      (1 : Word).toNat = one.band.effective ∧ service.mode = .maintenance ∧
      (1 : Word).toNat ≤ service.band.effective ∧ one.band.effective < (2 : Word).toNat := by decide

theorem test_meets_WideningEffect :
    (one.record 0).window = some (plain 1 100 10 .write) ∧ (plain 1 100 10 .write).owner ≠ 0 ∧ 100 < 64 * 2 ∧
      64 * 1 ≤ (plain 1 100 10 .write).base ∧ waiting 2 1 ∈ queued.queue ∧ (waiting 2 1).base < 64 * 2 ∧
      ready.waitLaw := by decide

theorem test_meets_PurgeRequest :
    ready.takesOpen 0 ∧ 12 ≤ (12 : Word).toNat ∧ (11 : Word).toNat = (11 : SlotIdx).val ∧ ready.mode = .running ∧
      service.takesOpen 0 ∧ service.mode = .maintenance ∧ (service.slot 0).binding = none ∧
      (stood.slot 0).binding = some 0 ∧ (stood.setStartUp service.startUp).takesOpen 0 ∧
      (service.slot 0).content = .blank ∧ (service.slot 0).mark = .none ∧ service.engine.workOn 0 = none :=
  ⟨by decide, by decide, by decide, rfl, by decide, rfl, rfl, rfl, by decide, rfl, rfl, rfl⟩

theorem test_meets_ConflictRelation : 1 ≤ (⟨0, 1, .read⟩ : Region).size := by decide

theorem test_meets_RetireProcedure :
    (one.record 0).holding = .held (plain 1 100 10 .write) ∧ (plain 1 100 10 .write).isStanding = false ∧
      (stood.record 0).holding = .held { plain 3 300 8 .read with kind := .standing 0 } ∧
      (stood.slot 0).content ≠ .blank ∧ ((stood.setSlot 0 ⟨.blank, some 0, .none⟩).slot 0).content = .blank ∧
      stood.engine.workOn 0 = none :=
  ⟨rfl, rfl, rfl, nofun, rfl, rfl⟩

theorem test_meets_CheckLaw :
    one.pins.supply = true ∧ one.check.phase = .ready ∧
      (after (exec (.checkStrobe 1 0x019000 63 true) one)).check.out.callow = true := by decide

theorem test_meets_CheckVerdict :
    (State.reset.mode = .starting ∧ one.mode ≠ .starting ∧ one.check.phase = .ready ∧ 6 ≤ (6 : BitVec 3).toNat ∧
      (5 : BitVec 3).toNat = (5 : Master).val ∧ service.mode = .maintenance ∧
      0xFFFFFF < (0xFFFFFF : Address).toNat + (1 : BitVec 6).toNat ∧
      (0xFFFF : Address).toNat + (0 : BitVec 6).toNat < 65536 * one.band.committed ∧
      65536 * one.band.committed ≤ (0x010000 : Address).toNat) ∧
    one.isLowest (fun _ w => w.owner = 1 ∧ containsSpan w.base w.size 0x019000 63 ∧ (true = true → w.mode = .write)) 0 ∧
    one.noneInForce (fun _ w => w.owner = 2 ∧ containsSpan w.base w.size 0x019000 63 ∧ (true = true → w.mode = .write)) ∧
    stood.isLowest (fun _ w => true = true ∧ w.owner = 3 ∧ containsSpan w.base w.size 0x04B000 63 ∧ w.mode = .read) 0 ∧
    one.isLowest (fun _ w => w.owner = 1 ∧ meetsBytes w.base w.size 0x018FFF 0x019000) 0 ∧
    one.noneInForce (fun _ w => w.owner = 2 ∧ meetsBytes w.base w.size 0x018FFF 0x019000) :=
  ⟨by decide, lowest_of (by decide), none_of (by decide), lowest_of (by decide),
    lowest_of (by decide), none_of (by decide)⟩

theorem test_meets_CheckEffects :
    busy.pins.supply = true ∧ busy.check.phase = .ready ∧ busy.verdict ⟨1, 0x019000, 63, true⟩ = .allowWindow 0 ∧
      busy.verdict ⟨2, 0x019000, 63, true⟩ = .deny .noWindow none ∧ (busy.notice 2).latch ≠ none ∧
      (busy.notice 3).latch = none ∧ 6 ≤ (7 : BitVec 3).toNat ∧
      busy.watch 0 = .armed ⟨4, 100, 10, .writes, 0, none⟩ ∧ busy.watch 1 = .free ∧
      meetsBytes 100 10 0x019000 (min (0x019000 + 63) 0xFFFFFF) ∧ (4 : Master) ≠ 1 ∧
      (∀ k, ∀ w ∈ (busy.watch k).watch, w.owner ≠ 3) ∧
      (after (exec (.checkStrobe 1 0 0 false) one)).check.phase = .answering ⟨1, 0, 0, false⟩ := by decide

theorem test_meets_WatchRequests :
    (busy.takesOpen 1 ∧ (2 : Word).toNat = WatchKinds.writes.code ∧ 1 ≤ (1 : Word).toNat ∧
      (16383 : Word).toNat + (1 : Word).toNat ≤ 16384 ∧ 16384 < (16384 : Word).toNat + (1 : Word).toNat ∧
      busy.watch 1 = .free ∧ (∀ j, j < (1 : WatchIdx) → busy.watch j ≠ .free)) ∧
    (busy.takesOpen 4 ∧ 8 ≤ (8 : Word).toNat ∧ (7 : Word).toNat = (7 : WatchIdx).val ∧
      busy.watch 0 = .armed ⟨4, 100, 10, .writes, 0, none⟩ ∧ (⟨4, 100, 10, .writes, 255, none⟩ : Watch).hits ≤ 255) ∧
    3 ≤ (List.finRange 8).countP fun k => ({ ready with watches := Vector.replicate 8 (.armed ⟨1, 0, 1, .reads, 0, none⟩) } :
      State).watch k |>.watch.any fun w => decide (w.owner = 1) := by decide

theorem test_meets_NoticeUnit :
    ready.pins.supply = true ∧ ready.mode ≠ .starting ∧ (0xFFF : Word).toNat < 4096 ∧
      ∀ c ∈ (busy.notice 2).latch, c.span < 128 :=
  ⟨rfl, nofun, by decide, by rintro c h; cases h; decide⟩

theorem test_meets_StandRequests :
    (one.takesOpen 2 ∧ handleFormatOk 0x0100 = true ∧ one.names 0x0100 (plain 1 100 10 .write)) ∧
    (one.session 1).allowance ≤ 0 ∧
    ((holding 0 (plain 0 200 4 .read) ready).takesOpen 0 ∧ 0 < (ready.session 0).allowance ∧
      (holding 0 (plain 0 200 4 .read) ready).names 0x0100 (plain 0 200 4 .read) ∧
      ready.slot 0 = ⟨.blank, none, .none⟩ ∧ ready.engine.workOn 0 = none) ∧
    (∀ k, ({ ready with slots := Vector.replicate 12 ⟨.damaged, none, .none⟩ } : State).slot k ≠ ⟨.blank, none, .none⟩) ∧
    (stood.takesOpen 3 ∧ stood.names 0x0100 { plain 3 300 8 .read with kind := .standing 0 } ∧
      (stood.session 3).quota < ((stood.setTally 3 ⟨4089, 1⟩).tally 3).usage + 8 ∧
      ((stood.setTally 3 ⟨4088, 1⟩).tally 3).usage + 8 ≤ (stood.session 3).quota) ∧
    (unwritten.slot 0).content = .blank ∧ (unwritten.slot 0).mark ≠ .clearDue ∧ unwritten.engine.workOn 0 = none := by
  decide

theorem test_meets_SlotMarkTables :
    (stood.slot 0).content = .valid (image 3 300 8 .read) ∧ (stood.slot 0).mark = .none ∧
      stood.engine.workOn 0 = none ∧ (unwritten.slot 0).mark = .writeDue ∧ unwritten.engine.workOn 0 = none ∧
      (working (.erasingForWrite 0 ⟨3, 300, 8, some .read, 0⟩ 0)).engine.workOn 0 = some .write ∧
      (working (.erasingForClear 0)).engine.workOn 0 = some .clear ∧
      ready.slot 0 = ⟨.blank, none, .none⟩ ∧ ready.engine.workOn 0 = none :=
  ⟨rfl, rfl, rfl, rfl, rfl, rfl, rfl, rfl, rfl⟩

theorem test_meets_EngineChoice :
    (working (.erasingForClear 5)).engine ≠ .idle ∧ State.reset.mode = .starting ∧ ready.engine = .idle ∧
      ready.mode ≠ .starting ∧
      ((ready.setBand ⟨1, some 2, .valid 1, true⟩).band.writeDue = true ∧
        (ready.setBand ⟨1, some 2, .valid 1, true⟩).band.pending = some 2) ∧
      ready.band.writeDue = false ∧ (∀ k, (ready.slot k).mark = .none) ∧
      ((ready.setSlot 11 ⟨.damaged, none, .clearDue⟩).slot 11).mark = .clearDue ∧
      (unwritten.slot 0).mark = .writeDue ∧ (unwritten.slot 0).binding = some 0 ∧
      (unwritten.record 0).holding = .held { plain 3 300 8 .read with kind := .standing 0 } := by decide

theorem test_meets_SlotPhases :
    (working (.erasingForWrite 0 (image 3 300 8 .read) 0)).engine = .erasingForWrite 0 (image 3 300 8 .read) 0 ∧
      (working (.programmingSlot 0 (image 3 300 8 .read) 0)).engine = .programmingSlot 0 (image 3 300 8 .read) 0 ∧
      stood.pins.supply = true ∧ (stood.slot 0).binding = some 0 ∧ (stood.slot 0).mark = .none ∧
      (stood.slot 0).binding ≠ some 1 ∧
      (stood.record 0).holding = .held { plain 3 300 8 .read with kind := .standing 0 } ∧
      (working (.erasingForClear 5)).engine = .erasingForClear 5 ∧
      (stood.slot 0).content = .valid (image 3 300 8 .read) :=
  ⟨rfl, rfl, rfl, rfl, rfl, by decide, rfl, rfl, rfl⟩

theorem test_meets_BandPhases :
    one.pins.supply = true ∧ (one.setEngine (.erasingBand 2)).engine = .erasingBand 2 ∧
      (one.setEngine (.programmingBand 2)).engine = .programmingBand 2 ∧ one.band.writeDue = false ∧
      (one.setBand ⟨1, some 3, .valid 1, true⟩).band.writeDue = true := ⟨rfl, rfl, rfl, rfl, rfl⟩

theorem test_meets_StartsBegin : one.pins.supply = true ∧ one.takesOpen 0 := by decide

theorem test_meets_StartUpReadBegins :
    State.reset.pins.supply = true ∧ State.reset.startUp.hold = true ∧ State.reset.pins.reset = false ∧
      (restoring .idle).mode = .starting ∧ (restoring .idle).startUp.hold = false ∧ (restoring .idle).engine = .idle ∧
      ((restoring .idle).setPins ⟨true, true, false, false⟩).pins.reset = true ∧
      ((State.reset.setPins ⟨true, true, false, false⟩).startUp.hold = true ∧
        (State.reset.setPins ⟨true, true, false, false⟩).pins.reset = true) ∧
      (restoring (.reading .band)).engine = .reading .band ∧ (restoring (.reading .band)).band.cell = .valid 0 ∧
      ((restoring (.reading .band)).setBand ⟨0, none, .damaged, false⟩).band.cell = .damaged :=
  ⟨rfl, rfl, rfl, rfl, rfl, rfl, rfl, ⟨rfl, rfl⟩, rfl, rfl, rfl⟩

theorem test_meets_SlotRestore :
    ((restoring (.reading (.slot 10))).pins.supply = true ∧ (11 : SlotIdx).val = (10 : SlotIdx).val + 1 ∧
      ((restoring (.reading (.slot 10))).slot 10).content = .blank ∧
      ((restoring (.reading (.slot 10))).setSlot 10 ⟨.damaged, none, .none⟩).lowestFree 0 ∧
      (1 : Master) ≠ 0 ∧ 64 * (restoring .idle).band.committed ≤ 16383) ∧
    ((image 1 16383 1 .write).owner = (1 : Master).val ∧ (image 1 16383 1 .write).mode = some .write ∧
      (image 1 16383 1 .write).check = Config.imageCheck 1 16383 1 (some .write) ∧ 16383 + 1 ≤ 16384) ∧
    (restoring .idle).noneInForce (fun _ v => Region.conflicts ⟨16383, 1, .write⟩ v.region = true) ∧
    ∀ m : Master, (⟨6, 0, 1, some .read, 0⟩ : Image).owner ≠ m.val :=
  ⟨by decide, ⟨rfl, rfl, rfl, by decide⟩, none_of (by decide), fun m h => absurd m.isLt (by simp at h; omega)⟩

theorem test_meets_StartingEnds :
    ((restoring (.reading (.slot 11))).pins.supply = true ∧
      (restoring (.reading (.slot 11))).engine = .reading (.slot 11) ∧
      ((restoring (.reading (.slot 11))).slot 11).content = .blank ∧
      (((restoring (.reading (.slot 11))).setSlot 11 ⟨.damaged, none, .none⟩).slot 11).content = .damaged) ∧
    (∃ s : State, s.engine = .reading (.slot 11) ∧ (s.slot 11).content = .valid (image 1 16383 1 .write) ∧
      s.noneInForce (fun _ v => Region.conflicts ⟨16383, 1, .write⟩ v.region = true) ∧
      ((1 : Master) ≠ 0 → 64 * s.band.committed ≤ 16383) ∧ s.lowestFree 0) ∧
    ∃ x : Image, (((restoring (.reading (.slot 11))).setSlot 11 ⟨.valid x, none, .none⟩).slot 11).content = .valid x ∧
      ∀ m : Master, x.owner ≠ m.val :=
  ⟨⟨rfl, rfl, rfl, rfl⟩,
    ⟨(restoring (.reading (.slot 11))).setSlot 11 ⟨.valid (image 1 16383 1 .write), none, .none⟩, rfl, rfl,
      none_of (by decide), fun _ => by decide, by decide⟩,
    ⟨⟨6, 0, 1, some .read, 0⟩, rfl, fun m h => absurd m.isLt (by simp at h; omega)⟩⟩

theorem test_meets_StatusReply :
    ready.pins.supply = true ∧ ready.mode ≠ .starting ∧ ready.band.committed ≤ 64 ∧
      (∀ v ∈ (ready.setBand ⟨64, some 64, .valid 64, true⟩).band.pending, v ≤ 64) ∧
      (List.replicate 16 (waiting 3 1)).length ≤ 16 ∧ (working (.erasingForClear 5)).engine = .erasingForClear 5 ∧
      (working (.programmingBand 2)).engine = .programmingBand 2 :=
  ⟨rfl, nofun, by decide, by rintro v h; cases h; decide, by decide, rfl, rfl⟩

theorem test_meets_ClockTick :
    State.reset.clock = none ∧ State.reset.pins.supply = true ∧ ready.clock = some 1000 ∧
      ready.expiryPending = false ∧ (ready.setClock (some 1500)).expiryPending = true := by decide

theorem test_meets_DeadlineExpiries :
    (busy.record 1).window = some (leased (plain 2 200 20 .read)) ∧
      (leased (plain 2 200 20 .read)).kind = .timed ⟨800, 1100, false⟩ ∧ busy.pins.supply = true ∧
      (busy.setClock (some 1100)).clock = some 1100 ∧ busy.clock ≠ some 1100 ∧
      (busy.clock ≠ none ∧ busy.ticksTo 1100 ≤ max 1 (800 / 8) ∧ busy.ticksTo 1100 < 800 ∧ 1 ≤ busy.ticksTo 1100) ∧
      ¬ (busy.setClock (some 999)).ticksTo 1100 ≤ max 1 (800 / 8) ∧
      (busy.record 3).window = some (drained (plain 1 400 4 .read)) ∧
      (drained (plain 1 400 4 .read)).drain = some ⟨1050, .revoked⟩ ∧ (busy.setClock (some 1050)).clock = some 1050 ∧
      (busy.record 4).window = none ∧ queued.queue = [waiting 2 1] ++ waiting 3 1 :: [] ∧
      (∀ o ∈ [waiting 2 1] ++ [], ¬ (o.master = (waiting 3 1).master ∧ o.ticket = (waiting 3 1).ticket)) ∧
      (∀ e ∈ queued.queue, ¬ (e.master = 3 ∧ e.ticket = 2)) ∧ (waiting 3 1).deadline = some 1020 ∧ (queued.setClock (some 1020)).clock = some 1020 := by decide

/-- The hypotheses of the eight statements on the laws: a state with every kind of record keeps them all, and steps. -/
theorem test_meets_Laws : busy.safe ∧ ∃ t, step { busy with pending := [.tick] } = .next t :=
  ⟨⟨by decide, by decide, by decide, by decide, by decide, by decide, by decide, by decide, by decide, by decide,
    by decide, by decide, by decide⟩, _, rfl⟩

end Sys2Proof.Tests
end

section
/-! PROOFS. The sums over the window table, and the laws of the table as one predicate that every operation keeps:
what one changed record does to the sums, the rule of each writer, and the rules of the shared operations. -/

namespace Sys2Proof.Machine

/-! ### Sums over an index -/

/-- Two sums over an index that differ at one place differ by what stands there. -/
theorem sum_finRange_replace {n : Nat} (f g : Fin n → Nat) (i : Fin n) (h : ∀ j, j ≠ i → f j = g j) :
    ((List.finRange n).map f).sum + g i = ((List.finRange n).map g).sum + f i := by
  have rest : ∑ j ∈ Finset.univ.erase i, f j = ∑ j ∈ Finset.univ.erase i, g j :=
    Finset.sum_congr rfl fun j hj => h j (Finset.ne_of_mem_erase hj)
  have hf : f i + ∑ j ∈ Finset.univ.erase i, f j = ∑ j, f j := Finset.add_sum_erase _ f (Finset.mem_univ i)
  have hg : g i + ∑ j ∈ Finset.univ.erase i, g j = ∑ j, g j := Finset.add_sum_erase _ g (Finset.mem_univ i)
  rw [← Fin.sum_univ_def, ← Fin.sum_univ_def]
  omega

/-- The number of elements that meet a test is the sum of ones over them. -/
theorem length_filter_eq_sum {α : Type} (p : α → Bool) (l : List α) :
    (l.filter p).length = (l.map fun a => (p a).toNat).sum := by
  induction l with
  | nil => rfl
  | cons a l ih => cases h : p a <;> simp [h, ih, Nat.add_comm]

/-- A count of indexes that all lie below a bound is at most the bound. -/
theorem length_filter_finRange_le {n : Nat} (p : Fin n → Bool) (k : Nat) (h : ∀ i, p i = true → i.val < k) :
    ((List.finRange n).filter p).length ≤ k := by
  have hnd : (((List.finRange n).filter p).map Fin.val).Nodup :=
    ((List.nodup_finRange n).filter p).map Fin.val_injective
  have hsub : ((List.finRange n).filter p).map Fin.val ⊆ List.range k := by
    intro x hx
    obtain ⟨i, hi, rfl⟩ := List.mem_map.1 hx
    exact List.mem_range.2 (h i (List.mem_filter.1 hi).2)
  simpa using (hnd.subperm hsub).length_le

/-! ### What a record counts for -/

/-- What a record counts for in a master's usage (R14). -/
def WindowRecord.usage (r : WindowRecord) (m : Master) : Nat :=
  r.window.elim 0 fun w => if w.owner = m ∧ w.isStanding = false then w.size else 0

/-- What a record counts for in a master's window count (R14). -/
def WindowRecord.count (r : WindowRecord) (m : Master) : Nat := (r.window.any fun w => decide (w.owner = m)).toNat

theorem State.usageOf_eq_sum (s : State) (m : Master) :
    s.usageOf m = ((List.finRange 64).map fun i => (s.record i).usage m).sum := rfl

theorem State.windowsOf_eq_sum (s : State) (m : Master) :
    s.windowsOf m = ((List.finRange 64).map fun i => (s.record i).count m).sum := length_filter_eq_sum _ _

theorem WindowRecord.usage_of_none (r : WindowRecord) (m : Master) (h : r.window = none) : r.usage m = 0 := by
  simp [WindowRecord.usage, h]

theorem WindowRecord.count_of_none (r : WindowRecord) (m : Master) (h : r.window = none) : r.count m = 0 := by
  simp [WindowRecord.count, h]

theorem WindowRecord.usage_of_some (r : WindowRecord) (m : Master) (w : Window) (h : r.window = some w) :
    r.usage m = if w.owner = m ∧ w.isStanding = false then w.size else 0 := by
  simp [WindowRecord.usage, h]

theorem WindowRecord.count_of_some (r : WindowRecord) (m : Master) (w : Window) (h : r.window = some w) :
    r.count m = if w.owner = m then 1 else 0 := by
  by_cases e : w.owner = m <;> simp [WindowRecord.count, h, e]

@[simp] theorem WindowRecord.window_held (g : Byte) (w : Window) :
    (⟨g, .held w⟩ : WindowRecord).window = some w := rfl
@[simp] theorem WindowRecord.window_free (g : Byte) (c : Option RetireCause) :
    (⟨g, .free c⟩ : WindowRecord).window = none := rfl

section
variable {s t : State} {i : RecIdx}

/-- One changed record changes a usage by what it counts for. -/
theorem State.usageOf_replace (h : ∀ j, j ≠ i → t.record j = s.record j) (m : Master) :
    t.usageOf m + (s.record i).usage m = s.usageOf m + (t.record i).usage m := by
  rw [State.usageOf_eq_sum, State.usageOf_eq_sum]
  exact sum_finRange_replace (fun j => (t.record j).usage m) (fun j => (s.record j).usage m) i fun j hj =>
    congrArg (WindowRecord.usage · m) (h j hj)

/-- One changed record changes a window count by what it counts for. -/
theorem State.windowsOf_replace (h : ∀ j, j ≠ i → t.record j = s.record j) (m : Master) :
    t.windowsOf m + (s.record i).count m = s.windowsOf m + (t.record i).count m := by
  rw [State.windowsOf_eq_sum, State.windowsOf_eq_sum]
  exact sum_finRange_replace (fun j => (t.record j).count m) (fun j => (s.record j).count m) i fun j hj =>
    congrArg (WindowRecord.count · m) (h j hj)

end

/-- What a watch record counts for in a master's ARMED watches (R109). -/
def WatchRecord.count (r : WatchRecord) (m : Master) : Nat := (r.watch.any fun w => decide (w.owner = m)).toNat

theorem WatchRecord.count_armed (w : Watch) (m : Master) :
    (WatchRecord.armed w).count m = if w.owner = m then 1 else 0 := by
  by_cases e : w.owner = m <;> simp [WatchRecord.count, WatchRecord.watch, e]

/-- One changed watch record changes a count by what it counts for. -/
theorem State.watchCount_replace {s t : State} {k : WatchIdx} (h : ∀ j, j ≠ k → t.watch j = s.watch j) (m : Master) :
    t.watchCount m + (s.watch k).count m = s.watchCount m + (t.watch k).count m := by
  unfold State.watchCount
  rw [length_filter_eq_sum, length_filter_eq_sum]
  exact sum_finRange_replace (fun j => (t.watch j).count m) (fun j => (s.watch j).count m) k fun j hj =>
    congrArg (WatchRecord.count · m) (h j hj)

/-! ### What the operations compute -/

theorem nextGeneration_ne_zero (g : Byte) : nextGeneration g ≠ 0 := by
  unfold nextGeneration
  split
  · decide
  · next h => intro e; apply h; bv_omega

theorem pushFailure_length_le (l : List Failure) (f : Failure) : (pushFailure l f).length ≤ 4 := by
  simp [pushFailure, Config.maxFailures]
  omega

/-- What a master with room for a window lacks nothing of (R28, R55). -/
theorem State.lackOfRoom_eq_none (s : State) (m : Master) (n : Nat) :
    s.lackOfRoom m n = none ↔ (s.tally m).windows < 24 ∧ (s.tally m).usage + n ≤ (s.session m).quota := by
  unfold State.lackOfRoom Config.maxWindows
  split
  · simp; omega
  · split <;> simp <;> omega

theorem Window.isStanding_standing (w : Window) (k : SlotIdx) :
    ({ w with kind := .standing k } : Window).isStanding = true := rfl

theorem Window.isStanding_session (w : Window) : ({ w with kind := .session } : Window).isStanding = false := rfl

/-! ### The records a start leaves (R147) -/

section
variable (s : State) (cause : StartCause) (hold : Bool)

@[simp] theorem State.beginStart_record (i : RecIdx) : (s.beginStart cause hold).record i = ⟨0, .free none⟩ := by
  simp [State.beginStart, State.record, WindowRecord.atStart]

@[simp] theorem State.beginStart_tally (m : Master) : (s.beginStart cause hold).tally m = ⟨0, 0⟩ := by
  simp [State.beginStart, State.tally, Tally.atStart]

@[simp] theorem State.beginStart_session (m : Master) : (s.beginStart cause hold).session m = Session.atStart m := by
  simp [State.beginStart, State.session]

@[simp] theorem State.beginStart_failureList (m : Master) : (s.beginStart cause hold).failureList m = [] := by
  simp [State.beginStart, State.failureList]

@[simp] theorem State.beginStart_notice (m : Master) : (s.beginStart cause hold).notice m = Notice.atStart := by
  simp [State.beginStart, State.notice]

@[simp] theorem State.beginStart_watch (k : WatchIdx) : (s.beginStart cause hold).watch k = .free := by
  simp [State.beginStart, State.watch]

@[simp] theorem State.beginStart_slot (k : SlotIdx) :
    (s.beginStart cause hold).slot k = (s.breakPhase.slot k).atStart := by
  simp [State.beginStart, State.slot]

@[simp] theorem State.beginStart_link (m : Master) : (s.beginStart cause hold).link m = (s.link m).atStart := by
  simp [State.beginStart, State.link]

@[simp] theorem State.beginStart_queue : (s.beginStart cause hold).queue = [] := rfl

@[simp] theorem State.beginStart_band :
    (s.beginStart cause hold).band = { s.breakPhase.band with pending := none, writeDue := false } := rfl

end

/-! ### The laws of the table -/

/-- The laws on what the window table, the tallies, the wait queue, the watches, the failure lists, the quotas and the
band hold: R13, R14 and R15, and the ranges of R1, R2, R47, R65, R108 and R137. -/
structure State.TableSound (s : State) : Prop where
  conflict : s.conflictLaw
  windows : ∀ i : RecIdx, ∀ w ∈ (s.record i).window,
    (s.record i).generation ≠ 0 ∧ 1 ≤ w.size ∧ w.base + w.size ≤ 16384
  waiters : ∀ e ∈ s.queue, 1 ≤ e.size ∧ e.base + e.size ≤ 16384
  watches : ∀ k : WatchIdx, ∀ w ∈ (s.watch k).watch, 1 ≤ w.size ∧ w.base + w.size ≤ 16384 ∧ w.hits ≤ 255
  watchCount : ∀ m : Master, s.watchCount m ≤ 3
  failures : ∀ m : Master, (s.failureList m).length ≤ 4
  sessions : ∀ m : Master, (s.session m).quota ≤ 16384 ∧ (s.session m).allowance ≤ 12
  committed : s.band.committed ≤ 64
  pending : ∀ v ∈ s.band.pending, v ≤ 64
  tally : s.tallyLaw

theorem State.TableSound.rangeLaw {s : State} (h : s.TableSound) : s.rangeLaw :=
  ⟨h.windows, h.waiters, h.watches, fun m => ⟨h.watchCount m, h.failures m⟩, h.sessions, h.committed, h.pending⟩

theorem State.safe.tableSound {s : State} (h : s.safe) : s.TableSound := by
  obtain ⟨conflict, ⟨windows, waiters, watches, lists, sessions, committed, pending⟩, tally, -⟩ := h
  exact ⟨conflict, windows, waiters, watches, fun m => (lists m).1, fun m => (lists m).2, sessions, committed,
    pending, tally⟩

namespace State.TableSound

variable {s t : State}

/-- The laws read nothing but the table, the tallies, the quotas and allowances, the queue, the failure lists, the
watches and the band's values. -/
theorem of_frame (h : s.TableSound)
    (table : t.table = s.table := by simp) (tallies : t.tallies = s.tallies := by simp)
    (sessions : ∀ m, (t.session m).quota = (s.session m).quota ∧
      (t.session m).allowance = (s.session m).allowance := by simp)
    (queue : ∀ e ∈ t.queue, e ∈ s.queue := by simp) (failures : t.failures = s.failures := by simp)
    (watches : t.watches = s.watches := by simp) (committed : t.band.committed = s.band.committed := by simp)
    (pending : t.band.pending = s.band.pending := by simp) : t.TableSound := by
  have record : ∀ i, t.record i = s.record i := fun i => by rw [State.record, table]; rfl
  have tally : ∀ m, t.tally m = s.tally m := fun m => by rw [State.tally, tallies]; rfl
  have list : ∀ m, t.failureList m = s.failureList m := fun m => by rw [State.failureList, failures]; rfl
  have watch : ∀ k, t.watch k = s.watch k := fun k => by rw [State.watch, watches]; rfl
  exact {
    conflict := by simpa only [State.conflictLaw, record] using h.conflict
    windows := by simpa only [record] using h.windows
    waiters := fun e he => h.waiters e (queue e he)
    watches := by simpa only [watch] using h.watches
    watchCount := by simpa only [State.watchCount, watch] using h.watchCount
    failures := by simpa only [list] using h.failures
    sessions := fun m => by rw [(sessions m).1, (sessions m).2]; exact h.sessions m
    committed := committed ▸ h.committed
    pending := pending ▸ h.pending
    tally := fun m => by
      have := h.tally m
      simpa only [State.usageOf, State.windowsOf, State.recordsWhere, record, tally, (sessions m).1] using this }

end State.TableSound

end Sys2Proof.Machine
end

section
/-! PROOFS. The rules of the writers and of the shared operations for the laws of the table. -/

namespace Sys2Proof.Machine.State.TableSound

variable {s t : State}

/-! ### One record changed -/

/-- The tallies are within the quota and the limit (R15). -/
theorem room (h : s.TableSound) (m : Master) :
    (s.tally m).usage ≤ (s.session m).quota ∧ (s.tally m).windows ≤ 24 := by
  obtain ⟨ht, hu, hc⟩ := h.tally m
  rw [ht]
  exact ⟨hu, hc⟩

/-- One record changes, and the tallies by what it counts for: the laws are kept when there is room for it and its
window conflicts with no other. -/
theorem of_record (h : s.TableSound) (i : RecIdx) (record : ∀ j, j ≠ i → t.record j = s.record j)
    (tally : ∀ m, t.tally m = ⟨(s.tally m).usage + (t.record i).usage m - (s.record i).usage m,
      (s.tally m).windows + (t.record i).count m - (s.record i).count m⟩)
    (room : ∀ m, (t.tally m).usage ≤ (s.session m).quota ∧ (t.tally m).windows ≤ 24)
    (window : ∀ w ∈ (t.record i).window, ((t.record i).generation ≠ 0 ∧ 1 ≤ w.size ∧ w.base + w.size ≤ 16384) ∧
      ∀ j, j ≠ i → ∀ v ∈ (s.record j).window, v.region.conflicts w.region = false)
    (sessions : t.sessions = s.sessions := by simp) (queue : t.queue = s.queue := by simp)
    (failures : t.failures = s.failures := by simp) (watches : t.watches = s.watches := by simp)
    (band : t.band = s.band := by simp) : t.TableSound := by
  have session : ∀ m, t.session m = s.session m := fun m => by rw [State.session, sessions]; rfl
  have list : ∀ m, t.failureList m = s.failureList m := fun m => by rw [State.failureList, failures]; rfl
  have watch : ∀ k, t.watch k = s.watch k := fun k => by rw [State.watch, watches]; rfl
  exact {
    conflict := by
      intro j k hjk v hv w hw
      by_cases hk : k = i
      · subst hk
        exact (window w hw).2 j hjk v (record j hjk ▸ hv)
      · by_cases hj : j = i
        · subst hj
          rw [Region.conflicts_comm]
          exact (window v hv).2 k hk w (record k hk ▸ hw)
        · exact h.conflict j k hjk v (record j hj ▸ hv) w (record k hk ▸ hw)
    windows := fun j w hw => by
      by_cases hj : j = i
      · subst hj
        exact (window w hw).1
      · rw [record j hj] at hw ⊢
        exact h.windows j w hw
    waiters := queue ▸ h.waiters
    watches := by simpa only [watch] using h.watches
    watchCount := by simpa only [State.watchCount, watch] using h.watchCount
    failures := by simpa only [list] using h.failures
    sessions := by simpa only [session] using h.sessions
    committed := band ▸ h.committed
    pending := band ▸ h.pending
    tally := fun m => by
      have hu := State.usageOf_replace record m
      have hc := State.windowsOf_replace record m
      obtain ⟨hs, -, -⟩ := h.tally m
      have ht : t.tally m = ⟨t.usageOf m, t.windowsOf m⟩ := by
        rw [tally m, hs, Tally.mk.injEq]
        exact ⟨by simp only; omega, by simp only; omega⟩
      have hroom := room m
      rw [ht] at hroom
      rw [session m]
      exact ⟨ht, hroom⟩ }

/-- A window in force is written again for the same owner, range and standing: the laws are kept when it conflicts with
no other window. -/
theorem setWindow (h : s.TableSound) {i : RecIdx} {w w' : Window} (hw : (s.record i).window = some w)
    (owner : w'.owner = w.owner) (base : w'.base = w.base) (size : w'.size = w.size)
    (standing : w'.isStanding = w.isStanding)
    (clear : ∀ j, j ≠ i → ∀ v ∈ (s.record j).window, v.region.conflicts w'.region = false) :
    (s.setWindow i w').TableSound := by
  have hi : (s.setWindow i w').record i = ⟨(s.record i).generation, .held w'⟩ := by simp [State.setWindow_record]
  have hrec : ∀ j, j ≠ i → (s.setWindow i w').record j = s.record j := fun j hj => by
    rw [State.setWindow_record, if_neg hj.symm]
  refine h.of_record i hrec (fun m => ?_) (fun m => ?_) (fun v hv => ?_)
  · rw [hi, WindowRecord.usage_of_some _ m w' rfl, WindowRecord.usage_of_some _ m w hw,
      WindowRecord.count_of_some _ m w' rfl, WindowRecord.count_of_some _ m w hw, owner, size, standing]
    simp
  · simpa using h.room m
  · rw [hi] at hv
    obtain rfl : w' = v := Option.some.inj hv
    rw [hi, base, size]
    exact ⟨h.windows i w hw, clear⟩

/-- A window in force is written again with its owner, region and standing. -/
theorem setWindow_region (h : s.TableSound) {i : RecIdx} {w w' : Window} (hw : (s.record i).window = some w)
    (owner : w'.owner = w.owner) (region : w'.region = w.region) (standing : w'.isStanding = w.isStanding) :
    (s.setWindow i w').TableSound := by
  obtain ⟨base, size, -⟩ := Region.mk.inj region
  exact h.setWindow hw owner base size standing fun j hj v hv => region ▸ h.conflict j i hj v hv w hw

/-- A window is issued into a FREE record: the laws are kept when nothing in force conflicts with it, its range is one
and its owner has room for it (R13, R15). -/
theorem issue (h : s.TableSound) {i : RecIdx} {w : Window} (hi : (s.record i).window = none)
    (clear : s.noneInForce (fun _ v => w.region.conflicts v.region = true))
    (range : 1 ≤ w.size ∧ w.base + w.size ≤ 16384) (windows : (s.tally w.owner).windows < 24)
    (usage : w.isStanding = false → (s.tally w.owner).usage + w.size ≤ (s.session w.owner).quota) :
    (s.issue i w).TableSound := by
  have hnew : (s.issue i w).record i = ⟨nextGeneration (s.record i).generation, .held w⟩ := by
    simp [State.issue_record]
  have hrec : ∀ j, j ≠ i → (s.issue i w).record j = s.record j := fun j hj => by
    rw [State.issue_record, if_neg hj.symm]
  refine h.of_record i hrec (fun m => ?_) (fun m => ?_) (fun v hv => ?_)
  · rw [hnew, WindowRecord.usage_of_some _ m w rfl, WindowRecord.usage_of_none _ m hi,
      WindowRecord.count_of_some _ m w rfl, WindowRecord.count_of_none _ m hi, State.issue_tally]
    by_cases e : w.owner = m
    · subst e
      cases hs : w.isStanding <;> simp [Tally.add, hs]
    · simp [e]
  · rw [State.issue_tally]
    split
    · next e =>
      subst e
      cases hs : w.isStanding
      · simpa [Tally.add, hs] using ⟨usage hs, windows⟩
      · simpa [Tally.add, hs] using ⟨(h.room _).1, windows⟩
    · exact h.room m
  · rw [hnew] at hv
    obtain rfl : w = v := Option.some.inj hv
    rw [hnew]
    refine ⟨⟨nextGeneration_ne_zero _, range⟩, fun j _ v hv => ?_⟩
    rw [Region.conflicts_comm]
    exact Bool.eq_false_iff.2 (clear j v hv)

/-- A retire keeps the laws (R17). -/
theorem retire (h : s.TableSound) (cause : RetireCause) (i : RecIdx) : (s.retire cause i).TableSound := by
  cases hw : (s.record i).window with
  | none => rwa [State.retire_free s cause i hw]
  | some w =>
    have hnew : (s.retire cause i).record i = ⟨(s.record i).generation, .free (some cause)⟩ := by
      simp [State.retire_record s cause i w hw]
    refine h.of_record i (fun j hj => State.retire_record_ne s cause i j hj.symm) (fun m => ?_) (fun m => ?_) ?_
    · rw [hnew, WindowRecord.usage_of_none _ m rfl, WindowRecord.usage_of_some _ m w hw,
        WindowRecord.count_of_none _ m rfl, WindowRecord.count_of_some _ m w hw, State.retire_tally s cause i w hw]
      by_cases e : w.owner = m
      · subst e
        cases hs : w.isStanding <;> simp [Tally.remove, hs]
      · simp [e]
    · have hroom := h.room m
      rw [State.retire_tally s cause i w hw]
      split
      · next e =>
        subst e
        simp only [Tally.remove]
        split <;> omega
      · exact hroom
    · simp [hnew]

/-- Several retires keep the laws (R20). -/
theorem retireAll (h : s.TableSound) (cause : RetireCause) (l : List RecIdx) : (s.retireAll cause l).TableSound := by
  induction l generalizing s with
  | nil => exact h
  | cons i l ih => exact ih (h.retire cause i)

/-! ### Writers -/

theorem setSession (h : s.TableSound) (m : Master) {x : Session} (allowance : x.allowance ≤ 12)
    (quota : (s.tally m).usage ≤ x.quota ∧ x.quota ≤ 16384) : (s.setSession m x).TableSound where
  conflict := h.conflict
  windows := h.windows
  waiters := h.waiters
  watches := h.watches
  watchCount := h.watchCount
  failures := h.failures
  sessions := fun k => by
    rw [State.setSession_session]
    split
    · exact ⟨quota.2, allowance⟩
    · exact h.sessions k
  committed := h.committed
  pending := h.pending
  tally := fun k => by
    obtain ⟨ht, hu, hc⟩ := h.tally k
    refine ⟨ht, ?_, hc⟩
    rw [State.setSession_session]
    split
    · next e =>
      subst e
      have hle := quota.1
      rw [ht] at hle
      exact hle
    · exact hu

/-- A session record keeps its quota and allowance. -/
theorem setSession_same (h : s.TableSound) (m : Master) {x : Session} (quota : x.quota = (s.session m).quota)
    (allowance : x.allowance = (s.session m).allowance) : (s.setSession m x).TableSound :=
  h.setSession m (allowance ▸ (h.sessions m).2) (quota ▸ ⟨(h.room m).1, (h.sessions m).1⟩)

theorem setQueue (h : s.TableSound) {q : List Waiter} (hq : ∀ e ∈ q, 1 ≤ e.size ∧ e.base + e.size ≤ 16384) :
    (s.setQueue q).TableSound :=
  ⟨h.conflict, h.windows, hq, h.watches, h.watchCount, h.failures, h.sessions, h.committed, h.pending, h.tally⟩

theorem setBand (h : s.TableSound) {b : BandControl} (committed : b.committed ≤ 64)
    (pending : ∀ v ∈ b.pending, v ≤ 64) : (s.setBand b).TableSound :=
  ⟨h.conflict, h.windows, h.waiters, h.watches, h.watchCount, h.failures, h.sessions, committed, pending, h.tally⟩

theorem setFailureList (h : s.TableSound) (m : Master) {l : List Failure} (hl : l.length ≤ 4) :
    (s.setFailureList m l).TableSound :=
  ⟨h.conflict, h.windows, h.waiters, h.watches, h.watchCount, fun k => by
    rw [State.setFailureList_failureList]
    split
    · exact hl
    · exact h.failures k, h.sessions, h.committed, h.pending, h.tally⟩

/-- Watches are written again: each ARMED record is one of before with its owner and range, and its count in range. -/
theorem of_watches (h : s.TableSound) (watch : ∀ k, ∀ w ∈ (t.watch k).watch, w.hits ≤ 255 ∧
      ∃ v ∈ (s.watch k).watch, w.owner = v.owner ∧ w.base = v.base ∧ w.size = v.size)
    (table : t.table = s.table := by simp) (tallies : t.tallies = s.tallies := by simp)
    (sessions : t.sessions = s.sessions := by simp) (queue : t.queue = s.queue := by simp)
    (failures : t.failures = s.failures := by simp) (band : t.band = s.band := by simp) : t.TableSound := by
  have hold : ({ t with watches := s.watches } : State).TableSound :=
    h.of_frame table tallies (fun m => by simp [State.session, sessions]) (fun e he => queue ▸ he) failures rfl
      (by simp [band]) (by simp [band])
  refine { hold with watches := fun k w hw => ?_, watchCount := fun m => ?_ }
  · obtain ⟨hits, v, hv, -, base, size⟩ := watch k w hw
    obtain ⟨h1, h2, -⟩ := h.watches k v hv
    exact ⟨size ▸ h1, by rw [base, size]; exact h2, hits⟩
  · refine le_trans (List.Sublist.length_le (List.monotone_filter_right _ fun k hk => ?_)) (h.watchCount m)
    simp only [Option.any_eq_true] at hk ⊢
    obtain ⟨w, hw, hm⟩ := hk
    obtain ⟨-, v, hv, owner, -⟩ := watch k w hw
    exact ⟨v, hv, owner ▸ hm⟩

/-- A watch is set in a record for a master with fewer than three (R109). -/
theorem setWatch (h : s.TableSound) {k : WatchIdx} {w : Watch}
    (count : s.watchCount w.owner < 3) (range : 1 ≤ w.size ∧ w.base + w.size ≤ 16384 ∧ w.hits ≤ 255) :
    (s.setWatch k (.armed w)).TableSound := by
  refine ⟨h.conflict, h.windows, h.waiters, fun j v hv => ?_, fun m => ?_, h.failures, h.sessions, h.committed,
    h.pending, h.tally⟩
  · rw [State.setWatch_watch] at hv
    split at hv
    · obtain rfl : w = v := Option.some.inj hv
      exact range
    · exact h.watches j v hv
  · have hsum := State.watchCount_replace (s := s) (t := s.setWatch k (.armed w))
      (fun j hj => s.setWatch_watch_ne k _ j hj.symm) m
    have hm := h.watchCount m
    rw [State.setWatch_watch_same, WatchRecord.count_armed] at hsum
    split at hsum
    · next e =>
      subst e
      omega
    · omega

end Sys2Proof.Machine.State.TableSound
end

section
/-! PROOFS. The rules of the shared operations for the laws of the table: the notices, the store engine, the wait queue
and the grant scan, drains, standing windows, checks, session ends, the widening, and the beginning of a start. -/

namespace Sys2Proof.Machine.State.TableSound

variable {s : State}

/-! ### Pieces the laws do not read -/

theorem setLink (h : s.TableSound) (m : Master) (l : Link) : (s.setLink m l).TableSound := h.of_frame
theorem setSlot (h : s.TableSound) (k : SlotIdx) (x : Slot) : (s.setSlot k x).TableSound := h.of_frame
theorem setEngine (h : s.TableSound) (e : Engine) : (s.setEngine e).TableSound := h.of_frame
theorem setCheck (h : s.TableSound) (c : CheckUnit) : (s.setCheck c).TableSound := h.of_frame
theorem setStartUp (h : s.TableSound) (u : StartUp) : (s.setStartUp u).TableSound := h.of_frame
theorem setPins (h : s.TableSound) (p : Pins) : (s.setPins p).TableSound := h.of_frame
theorem setNotice (h : s.TableSound) (m : Master) (n : Notice) : (s.setNotice m n).TableSound := h.of_frame
theorem placeReply (h : s.TableSound) (m : Master) (r : Reply) : (s.placeReply m r).TableSound := h.of_frame
theorem raise (h : s.TableSound) (m : Master) (f : Flag) : (s.raise m f).TableSound := h.of_frame
theorem changeSlot (h : s.TableSound) (k : SlotIdx) (f : Slot → Option SlotWork → Slot) :
    (s.changeSlot k f).TableSound := h.of_frame
theorem markRewriteOf (h : s.TableSound) (w : Window) : (s.markRewriteOf w).TableSound := h.of_frame
theorem markRevokedOf (h : s.TableSound) (w : Window) : (s.markRevokedOf w).TableSound := h.of_frame
theorem renewSession (h : s.TableSound) (m : Master) : (s.renewSession m).TableSound := h.of_frame

theorem setSessionState (h : s.TableSound) (m : Master) (x : SessionState) : (s.setSessionState m x).TableSound :=
  h.setSession_same m rfl rfl

/-! ### The store engine -/

theorem chooseTarget (h : s.TableSound) : s.chooseTarget.TableSound := by
  unfold State.chooseTarget
  split
  · exact (h.setBand (b := { s.band with writeDue := false }) h.committed h.pending).setEngine _
  · split
    · exact h
    · split
      · exact (h.setSlot _ _).setEngine _
      · exact h

theorem kickEngine (h : s.TableSound) : s.kickEngine.TableSound := by
  unfold State.kickEngine
  split
  · exact h.chooseTarget
  · exact h

theorem endOperation (h : s.TableSound) : s.endOperation.TableSound := (h.setEngine .idle).kickEngine

theorem breakPhase (h : s.TableSound) : s.breakPhase.TableSound := by
  unfold State.breakPhase
  split
  · exact h.setSlot _ _
  · exact h.setSlot _ _
  · exact h.setSlot _ _
  · exact h.setBand (b := { s.band with cell := .damaged }) h.committed h.pending
  · exact h.setBand (b := { s.band with cell := .damaged }) h.committed h.pending
  · exact h
  · exact h

/-! ### The wait queue -/

theorem waitFail (h : s.TableSound) (cause : FailCause) (e : Waiter) : (s.waitFail cause e).TableSound :=
  (h.setFailureList e.master (pushFailure_length_le _ _)).raise _ _

theorem removeWaiters (h : s.TableSound) (cause : Option FailCause) (p : Waiter → Bool) :
    (s.removeWaiters cause p).TableSound := by
  have left : (s.setQueue (s.queue.filter fun e => !p e)).TableSound :=
    h.setQueue fun e he => h.waiters e (List.mem_filter.1 he).1
  cases cause with
  | none => exact left
  | some c => exact List.foldlRecOn _ _ left fun t ht e _ => ht.waitFail c e

theorem enqueue (h : s.TableSound) {e : Waiter} (range : 1 ≤ e.size ∧ e.base + e.size ≤ 16384) :
    (s.enqueue e).TableSound := by
  refine (h.setQueue (q := s.queue ++ [e]) fun x hx => ?_).setSession_same _ rfl rfl
  rcases List.mem_append.1 hx with hx | hx
  · exact h.waiters x hx
  · rw [List.mem_singleton.1 hx]
    exact range

/-- The walk of the grant scan keeps the laws: a grant meets the tests of R51 and R55. -/
theorem scanFrom (older rest : List Waiter) (h : s.TableSound)
    (range : ∀ e ∈ older ++ rest, 1 ≤ e.size ∧ e.base + e.size ≤ 16384) : (scanFrom older rest s).TableSound := by
  induction rest generalizing older s with
  | nil => exact h.setQueue (by simpa using range)
  | cons e rest ih =>
    have drop : ∀ x ∈ older ++ rest, 1 ≤ x.size ∧ x.base + x.size ≤ 16384 := fun x hx =>
      range x (by simp only [List.mem_append, List.mem_cons] at hx ⊢; tauto)
    unfold Machine.scanFrom
    split
    · exact h.setQueue range
    · next i hi =>
      split
      · exact ih (older ++ [e]) h (by simpa using range)
      · next held =>
        split
        · next cause hc => exact ih older (h.waitFail cause e) drop
        · next room =>
          obtain ⟨windows, usage⟩ := (s.lackOfRoom_eq_none _ _).1 room
          have blocker : s.blocker e.region = none := by
            simp only [State.heldBack, Bool.or_eq_true, not_or, Bool.not_eq_true] at held
            exact Option.isNone_iff_eq_none.1 (by simpa using held.1)
          have issued : (s.issue i (s.grantedWindow e)).TableSound :=
            h.issue ((s.findFree_eq_some i).1 hi).1 ((s.blocker_eq_none _).1 blocker) (range e (by simp)) windows
              fun _ => usage
          exact ih older (issued.raise _ _) drop

theorem grantScan (h : s.TableSound) : s.grantScan.TableSound := h.scanFrom [] s.queue h.waiters

/-! ### Modes and drains -/

theorem changeMode (h : s.TableSound) {i : RecIdx} {w : Window} (mode : AccessMode)
    (hw : (s.record i).window = some w)
    (clear : ∀ j, j ≠ i → ∀ v ∈ (s.record j).window, v.region.conflicts ⟨w.base, w.size, mode⟩ = false) :
    (s.changeMode i w mode).TableSound :=
  (h.setWindow (w' := { w with mode := mode }) hw rfl rfl rfl rfl clear).markRewriteOf w

theorem drainWindow (h : s.TableSound) (cause : DrainCause) (grace : Nat) (i : RecIdx) :
    (s.drainWindow cause grace i).TableSound := by
  unfold State.drainWindow
  split
  · exact h
  · next w hw =>
    split
    · exact h.retire _ i
    · exact (h.setWindow_region (w' := { w with drain := some (s.drainOf w cause grace) }) hw rfl rfl rfl).raise _ _

/-- The widening keeps the laws (R140, R141). -/
theorem widen (h : s.TableSound) (value grace : Nat) : (s.widen value grace).TableSound := by
  have drained : ∀ l : List RecIdx, (l.foldl (fun t i => t.drainWindow .banded grace i) s).TableSound := fun l =>
    List.foldlRecOn _ _ h fun t ht i _ => ht.drainWindow .banded grace i
  simp only [State.widen]
  split
  · exact ((drained _).removeWaiters _ _).grantScan
  · exact (drained _).removeWaiters _ _

theorem commitBand (h : s.TableSound) {value : Nat} (hv : value ≤ 64) : (s.commitBand value).TableSound :=
  ((h.setBand (b := { s.band with committed := value, pending := none }) hv (by simp)).retireAll _ _).grantScan

/-! ### Standing windows -/

/-- A window stands: its owner's usage falls by its size (R134). -/
theorem standWindow (h : s.TableSound) {i : RecIdx} {w : Window} (k : SlotIdx) (hw : (s.record i).window = some w)
    (hs : w.isStanding = false) : (s.standWindow i w k).TableSound := by
  have hnew : (s.standWindow i w k).record i = ⟨(s.record i).generation, .held { w with kind := .standing k }⟩ := by
    simp [State.standWindow, State.setWindow_record]
  have htally : ∀ m, (s.standWindow i w k).tally m =
      if w.owner = m then { s.tally m with usage := (s.tally m).usage - w.size } else s.tally m := fun m => by
    simp only [State.standWindow, State.setTally_tally, State.setWindow_tally, State.setSlot_tally]
    split <;> simp_all
  refine h.of_record i (fun j hj => by simp [State.standWindow, State.setWindow_record, hj.symm]) (fun m => ?_)
    (fun m => ?_) (fun v hv => ?_)
  · rw [hnew, htally, WindowRecord.usage_of_some _ m w hw, WindowRecord.count_of_some _ m w hw,
      WindowRecord.usage_of_some _ m _ rfl, WindowRecord.count_of_some _ m _ rfl, hs]
    by_cases e : w.owner = m
    · subst e
      simp [Window.isStanding_standing]
    · simp [e]
  · have hroom := h.room m
    rw [htally]
    split
    · exact ⟨le_trans (Nat.sub_le _ _) hroom.1, hroom.2⟩
    · exact hroom
  · rw [hnew] at hv
    obtain rfl := Option.some.inj hv
    rw [hnew]
    exact ⟨h.windows i w hw, fun j hj v hv => h.conflict j i hj v hv w hw⟩

/-- A standing window is SESSION again: its owner's usage rises by its size, within the quota (R136). -/
theorem unstandWindow (h : s.TableSound) {i : RecIdx} {w : Window} (k : SlotIdx) (hw : (s.record i).window = some w)
    (hs : w.isStanding = true) (room : (s.tally w.owner).usage + w.size ≤ (s.session w.owner).quota) :
    (s.unstandWindow i w k).TableSound := by
  have hnew : (s.unstandWindow i w k).record i = ⟨(s.record i).generation, .held { w with kind := .session }⟩ := by
    simp [State.unstandWindow, State.setWindow_record]
  have htally : ∀ m, (s.unstandWindow i w k).tally m =
      if w.owner = m then { s.tally m with usage := (s.tally m).usage + w.size } else s.tally m := fun m => by
    simp only [State.unstandWindow, State.changeSlot_tally, State.setTally_tally, State.setWindow_tally]
    split <;> simp_all
  refine h.of_record i (fun j hj => by simp [State.unstandWindow, State.setWindow_record, hj.symm]) (fun m => ?_)
    (fun m => ?_) (fun v hv => ?_)
  · rw [hnew, htally, WindowRecord.usage_of_some _ m w hw, WindowRecord.count_of_some _ m w hw,
      WindowRecord.usage_of_some _ m _ rfl, WindowRecord.count_of_some _ m _ rfl, hs]
    by_cases e : w.owner = m
    · subst e
      simp [Window.isStanding_session]
    · simp [e]
  · rw [htally]
    split
    · next e =>
      subst e
      exact ⟨room, (h.room _).2⟩
    · exact h.room m
  · rw [hnew] at hv
    obtain rfl := Option.some.inj hv
    rw [hnew]
    exact ⟨h.windows i w hw, fun j hj v hv => h.conflict j i hj v hv w hw⟩

/-! ### Checks -/

theorem touch (h : s.TableSound) (v : Verdict) : (s.touch v).TableSound := by
  unfold State.touch
  split
  · next i =>
    cases hw : (s.record i).window with
    | none => exact h
    | some w => exact h.setWindow_region (w' := { w with touched := true }) hw rfl rfl rfl
  · exact h
  · exact h

theorem hitWatch (h : s.TableSound) (m : Master) (a : Access) (v : Verdict) (k : WatchIdx) :
    (s.hitWatch m a v k).TableSound := by
  refine h.of_watches fun j w hw => ?_
  have same : ∀ x ∈ (s.watch j).watch, x = w → w.hits ≤ 255 ∧
      ∃ x ∈ (s.watch j).watch, w.owner = x.owner ∧ w.base = x.base ∧ w.size = x.size := by
    rintro x hx rfl
    exact ⟨(h.watches j x hx).2.2, x, hx, rfl, rfl, rfl⟩
  rw [State.hitWatch_watch] at hw
  split at hw
  · next e =>
    subst e
    split at hw
    · next x hx =>
      have hx' : x ∈ (s.watch k).watch := by rw [hx]; rfl
      obtain rfl := Option.some.inj hw
      split
      · refine ⟨?_, x, hx', rfl, rfl, rfl⟩
        have := (h.watches k x hx').2.2
        simp only [Watch.afterHit]
        split <;> omega
      · exact ⟨(h.watches k x hx').2.2, x, hx', rfl, rfl, rfl⟩
    · cases hw
  · exact same w hw rfl

theorem hitWatches (h : s.TableSound) (m : Master) (a : Access) (v : Verdict) :
    (s.hitWatches m a v).TableSound := by
  unfold State.hitWatches
  split
  · exact h
  · exact List.foldlRecOn _ _ h fun t ht k _ => ht.hitWatch m a v k

theorem applyVerdict (h : s.TableSound) (a : Access) (v : Verdict) : (s.applyVerdict a v).TableSound := by
  unfold State.applyVerdict
  split
  · exact h
  · exact ((h.touch v).of_frame : ((s.touch v).captureDenial _ a v).TableSound).hitWatches _ a v

/-! ### Session ends -/

theorem freeWatches (h : s.TableSound) (m : Master) : (s.freeWatches m).TableSound := by
  refine h.of_watches fun k w hw => ?_
  have hk : (s.freeWatches m).watch k = (s.watch k).without m := by simp [State.freeWatches, State.watch]
  rw [hk] at hw
  cases hx : s.watch k with
  | free => rw [hx] at hw; cases hw
  | armed x =>
    have hm : x ∈ (WatchRecord.armed x).watch := rfl
    rw [hx] at hw
    unfold WatchRecord.without at hw
    split at hw
    · next y hy =>
      obtain rfl := WatchRecord.armed.inj hy
      split at hw
      · cases hw
      · obtain rfl := Option.some.inj hw
        exact ⟨(h.watches k _ (hx ▸ hm)).2.2, _, hm, rfl, rfl, rfl⟩
    · cases hw

theorem endSession (h : s.TableSound) (m : Master) (cause : RetireCause) (fail : Option FailCause)
    (after : SessionState) : (s.endSession m cause fail after).TableSound :=
  ((((h.retireAll _ _).removeWaiters _ _).freeWatches m).setSessionState m after).grantScan

theorem noticeLapse (h : s.TableSound) (m : Master) : (s.noticeLapse m).TableSound := h.of_frame

/-! ### Starts -/

/-- A start leaves an empty table (R147). -/
theorem beginStart (h : s.TableSound) (cause : StartCause) (hold : Bool) : (s.beginStart cause hold).TableSound where
  conflict := fun i j _ v hv => by simp at hv
  windows := fun i w hw => by simp at hw
  waiters := fun e he => by simp at he
  watches := fun k w hw => by simp [WatchRecord.watch] at hw
  watchCount := fun m => by simp [State.watchCount, WatchRecord.watch]
  failures := fun m => by simp
  sessions := fun m => by
    rw [State.beginStart_session, Session.atStart]
    split <;> simp
  committed := h.breakPhase.committed
  pending := fun v hv => by simp at hv
  tally := fun m => by simp [State.usageOf, State.windowsOf, State.recordsWhere]

end Sys2Proof.Machine.State.TableSound
end

section
/-! PROOFS. The rules of the requests for the laws of the table. -/

namespace Sys2Proof.Machine

/-! ### The frame of a request, for any predicate of the state -/

section
variable {P : State → Prop} {s t : State}

theorem State.gated_keeps {gate : Option Status} {rest : Answer} (hs : P s) (hr : gate = none → P rest.state) :
    P (s.gated gate rest).state := by
  cases gate with
  | none => exact hr rfl
  | some st => exact hs

theorem State.resolve_eq_held (s : State) (h : Word) (w : Window) (hr : s.resolve h = .held w) :
    (s.record (handleIndex h)).window = some w := by
  rw [WindowRecord.window_eq_some]
  simp only [State.resolve] at hr
  split at hr
  · split at hr
    · next hh => rw [hh, Resolved.held.inj hr]
    · cases hr
  · cases hr

theorem State.withHandle_keeps {h : Word} {f : RecIdx → Window → Answer} (hs : P s)
    (hf : ∀ i w, (s.record i).window = some w → P (f i w).state) : P (s.withHandle h f).state := by
  unfold State.withHandle
  split
  · exact hs
  · exact hs
  · next w hw => exact hf _ w (s.resolve_eq_held h w hw)

theorem State.withWatch_keeps {m : Master} {id : Word} {f : WatchIdx → Watch → Answer} (hs : P s)
    (hf : ∀ k w, (s.watch k).watch = some w → w.owner = m → P (f k w).state) : P (s.withWatch m id f).state := by
  unfold State.withWatch
  split
  · exact hs
  · split
    · exact hs
    · next w hw =>
      split
      · exact hs
      · next ho => exact hf _ w hw (not_not.1 ho)

theorem serve_keeps {m : Master} {code : Byte} {ok : Bool} {body : State → Answer} (hs : P (s.renewSession m))
    (hb : P (s.renewSession m) → P (body (s.renewSession m)).state)
    (hp : ∀ u r, P u → P (u.placeReply m r)) : P (serve m code ok body s) := by
  cases ok
  · exact hp _ _ hs
  · exact hp _ _ (hb hs)

theorem whenPowered_keeps {f : State → State} (hs : P s) (hf : s.pins.supply = true → P (f s))
    (hn : whenPowered f s = .next t) : P t := by
  cases hp : s.pins.supply
  · rw [whenPowered_off f s hp] at hn
    exact Host.Outcome.next.inj hn ▸ hs
  · rw [whenPowered_next f s hp] at hn
    exact Host.Outcome.next.inj hn ▸ hf hp

/-- A request's row runs what its owning block does on taking it (R161). -/
theorem exec_request (i : Instr) (s : State) (h : requestParts i ≠ none) :
    exec i s = whenPowered (takeRequest i) s := by
  cases i with
  | frameEnd _ _ | checkStrobe _ _ _ _ | checkRelease | tick | lapse _ | leaseExpiry _ | leaselowWarning _
  | drainEnd _ | waitExpiry _ _ | slotEraseDone | slotProgramDone | clearDone | bandEraseDone | bandProgramDone
  | bandCellRead | slotRead _ | powerStart | powerOnHoldEnd | lineStart | resetRelease | supplyLoss | lselFall _
  | lossOfRetention _ _ => exact absurd rfl h
  | _ => rfl

end

/-! ### The tests of a claim -/

/-- The value tests of a claim, in the words of claims (R26). -/
theorem ClaimOperands.rangeFault_eq_none (c : ClaimOperands) : c.rangeFault = none ↔ c.inRange := by
  unfold ClaimOperands.rangeFault Config.granules Config.maxTicks
  split
  · next h => exact ⟨nofun, fun ⟨h1, h2, _⟩ => by omega⟩
  · next h =>
    split
    · next h' => exact ⟨nofun, fun ⟨_, _, h3, h4⟩ => by
        rcases h' with h' | ⟨hw, h'⟩
        · omega
        · exact absurd (h4 hw) (by omega)⟩
    · next h' =>
      refine ⟨fun _ => ⟨by omega, by omega, by omega, fun hw => ?_⟩, fun _ => rfl⟩
      by_contra hl
      exact h' (.inr ⟨hw, by omega⟩)

/-- The band and bound tests of a claim, in the words of claims (R27, R28). -/
theorem State.claimFault_eq_none (s : State) (m : Master) (c : ClaimOperands) :
    s.claimFault m c = none ↔ s.claimFits m c := by
  have room := s.lackOfRoom_eq_none m c.size
  unfold State.claimFault
  split
  · next h =>
    obtain ⟨hm, hb⟩ := h
    have hlt : c.base < 64 * s.band.effective := of_decide_eq_true hb
    exact ⟨nofun, fun ⟨h1, _⟩ => absurd (h1 hm) (by omega)⟩
  · next h =>
    have hband : m ≠ 0 → 64 * s.band.effective ≤ c.base := fun hm => by
      by_contra hb
      exact h ⟨hm, decide_eq_true (by omega)⟩
    split
    · next hc => exact ⟨nofun, fun ⟨_, h2⟩ => absurd (room.2 h2) (by simp [hc])⟩
    · next hc => exact ⟨nofun, fun ⟨_, h2⟩ => absurd (room.2 h2) (by simp [hc])⟩
    · next hc => exact ⟨fun _ => ⟨hband, room.1 hc⟩, fun _ => rfl⟩

/-- A claim is granted at once, into the lowest FREE record, when nothing in force and nothing waiting conflicts
(R29). -/
theorem State.claimGrant_eq_some (s : State) (c : ClaimOperands) (i : RecIdx) :
    s.claimGrant c.region = some i ↔ s.claimClear c ∧ s.lowestFree i := by
  have hq : s.waiterConflicts c.region = false ↔ ∀ e ∈ s.queue, c.region.conflicts e.region = false := by
    simp [State.waiterConflicts]
  unfold State.claimGrant
  split
  · next h =>
    refine ⟨nofun, fun ⟨⟨h1, h2⟩, _⟩ => ?_⟩
    rw [(s.blocker_eq_none _).2 h1, hq.2 h2] at h
    simp at h
  · next h =>
    simp only [not_or, Bool.not_eq_true, Option.isSome_eq_false_iff, Option.isNone_iff_eq_none] at h
    rw [s.findFree_eq_some]
    exact ⟨fun hf => ⟨⟨(s.blocker_eq_none _).1 h.1, hq.1 h.2⟩, hf⟩, fun hf => hf.2⟩

theorem Region.conflicts_of_not_overlaps (a b : Region) (h : a.overlaps b = false) : a.conflicts b = false := by
  simp [Region.conflicts, h]

/-- A WRITE region conflicts with every region it overlaps (R12). -/
theorem Region.conflicts_write (a b : Region) (h : b.mode = .write) : a.conflicts b = a.overlaps b := by
  simp [Region.conflicts, h]

/-! ### Requests -/

namespace State.TableSound

variable {s : State}

theorem watchSetAnswer (h : s.TableSound) (m : Master) (base size : Nat) (kinds : WatchKinds) :
    (watchSetAnswer m base size kinds s).state.TableSound := by
  unfold Machine.watchSetAnswer Config.granules Config.maxWatchesPerMaster
  split
  · exact h
  · next hr =>
    split
    · exact h
    · next hc =>
      split
      · exact h
      · rw [not_or] at hr
        exact h.setWatch (Nat.lt_of_not_le hc) ⟨Nat.pos_of_ne_zero hr.1, Nat.le_of_not_lt hr.2, Nat.zero_le _⟩

theorem watchClear (h : s.TableSound) (k : WatchIdx) : (s.setWatch k .free).TableSound := by
  refine h.of_watches fun j w hw => ?_
  rw [State.setWatch_watch] at hw
  split at hw
  · cases hw
  · exact ⟨(h.watches j w hw).2.2, w, hw, rfl, rfl, rfl⟩

theorem watchRead (h : s.TableSound) {k : WatchIdx} {w : Watch} (hk : (s.watch k).watch = some w) :
    (s.setWatch k (.armed { w with hits := 0 })).TableSound := by
  refine h.of_watches fun j v hv => ?_
  rw [State.setWatch_watch] at hv
  split at hv
  · next e =>
    subst e
    obtain rfl := Option.some.inj hv
    exact ⟨Nat.zero_le _, w, hk, rfl, rfl, rfl⟩
  · exact ⟨(h.watches j v hv).2.2, v, hv, rfl, rfl, rfl⟩

theorem cancelAnswer (h : s.TableSound) (m : Master) (t : Word) : (cancelAnswer m t s).state.TableSound := by
  unfold Machine.cancelAnswer
  split
  · exact (h.removeWaiters _ _).grantScan
  · exact h
  · exact h
  · exact h

theorem ticketAnswer (h : s.TableSound) (m : Master) (t : Word) : (ticketAnswer m t s).state.TableSound := by
  unfold Machine.ticketAnswer
  split <;> exact h

theorem openAnswer (h : s.TableSound) (m : Master) (period : Nat) : (openAnswer m period s).state.TableSound := by
  unfold Machine.openAnswer
  split
  · exact h
  · split
    · exact h
    · exact h.setSessionState m _
    · exact h.setSessionState m _

theorem closeAnswer (h : s.TableSound) (m : Master) : (closeAnswer m s).state.TableSound := by
  unfold Machine.closeAnswer
  split
  · exact h.endSession m _ _ _
  · exact h.setSessionState m _
  · exact h

theorem claimAnswer (h : s.TableSound) (m : Master) (c : ClaimOperands) : (claimAnswer m c s).state.TableSound := by
  refine State.gated_keeps h fun hrange => State.gated_keeps h fun hfits => ?_
  obtain ⟨size, last, -⟩ := c.rangeFault_eq_none.1 hrange
  obtain ⟨-, windows, usage⟩ := (s.claimFault_eq_none m c).1 hfits
  split
  · next i hi =>
    obtain ⟨⟨clear, -⟩, free, -⟩ := (s.claimGrant_eq_some c i).1 hi
    exact h.issue free clear ⟨size, last⟩ windows fun _ => usage
  · unfold State.claimWaits
    split
    · split
      · exact h.enqueue ⟨size, last⟩
      · exact h
    · split <;> exact h

theorem renewWindow (h : s.TableSound) (m : Master) (ticks : Nat) {i : RecIdx} {w : Window}
    (hw : (s.record i).window = some w) : (renewWindow m ticks s i w).state.TableSound := by
  unfold Machine.renewWindow
  split
  · exact h
  · split
    · exact h
    · split
      · next l hk => exact h.setWindow_region hw rfl rfl (by simp [Window.isStanding, hk])
      · exact h
      · exact h

theorem releaseWindow (h : s.TableSound) (m : Master) (i : RecIdx) (w : Window) :
    (releaseWindow m s i w).state.TableSound := by
  unfold Machine.releaseWindow
  split
  · exact h
  · split
    · exact h
    · exact (h.retire _ i).grantScan

theorem downgradeWindow (h : s.TableSound) (m : Master) {i : RecIdx} {w : Window}
    (hw : (s.record i).window = some w) : (downgradeWindow m s i w).state.TableSound := by
  unfold Machine.downgradeWindow
  split
  · exact h
  · split
    · exact h
    · next hm =>
      refine (h.changeMode .read hw fun j hj v hv => ?_).grantScan.kickEngine
      have hc := h.conflict j i hj v hv w hw
      rw [Region.conflicts_write _ _ hm] at hc
      exact Region.conflicts_of_not_overlaps _ _ hc

theorem upgradeWindow (h : s.TableSound) (m : Master) {i : RecIdx} {w : Window}
    (hw : (s.record i).window = some w) : (upgradeWindow m s i w).state.TableSound := by
  unfold Machine.upgradeWindow
  split
  · exact h
  · split
    · exact h
    · split
      · exact h
      · split
        · exact h
        · next hc =>
          rw [not_or, Option.not_isSome_iff_eq_none, State.overlapOther, s.lowest_eq_none] at hc
          refine (h.changeMode .write hw fun j hj v hv => Region.conflicts_of_not_overlaps _ _ ?_).kickEngine
          have apart : w.region.overlaps v.region = false := by simpa [hj] using hc.1 j v hv
          rw [Region.overlaps_comm]
          exact apart

theorem queryWindow (h : s.TableSound) {i : RecIdx} {w : Window} (hw : (s.record i).window = some w) :
    (queryWindow s i w).state.TableSound :=
  h.setWindow_region (w' := { w with touched := false }) hw rfl rfl rfl

theorem listAnswer (h : s.TableSound) (m : Master) (start target : Word) :
    (listAnswer m start target s).state.TableSound := by
  unfold Machine.listAnswer
  split
  · exact h
  · split
    · exact h
    · split <;> exact h

theorem purgeAnswer (h : s.TableSound) (slot : Word) : (purgeAnswer slot s).state.TableSound := by
  unfold Machine.purgeAnswer
  split
  · exact h
  · next k _ =>
    split
    · have purged : (s.purgeWindow (s.slot k).binding).TableSound := by
        cases (s.slot k).binding with
        | none => exact h
        | some i => exact (h.retire _ i).grantScan
      exact (purged.changeSlot k _).kickEngine
    · exact h

theorem standAnswer (h : s.TableSound) (m : Master) {i : RecIdx} {w : Window} (hw : (s.record i).window = some w) :
    (standAnswer m s i w).state.TableSound := by
  unfold Machine.standAnswer
  split
  · exact h
  · split
    · exact h
    · split
      · exact h
      · next hs =>
        split
        · exact h
        · split
          · exact h
          · exact (h.standWindow _ hw (Bool.eq_false_iff.2 hs)).kickEngine

theorem unstandAnswer (h : s.TableSound) (m : Master) {i : RecIdx} {w : Window} (hw : (s.record i).window = some w) :
    (unstandAnswer m s i w).state.TableSound := by
  unfold Machine.unstandAnswer
  split
  · exact h
  · next ho =>
    obtain rfl := not_not.1 ho
    split
    · exact h
    · exact h
    · next hk =>
      split
      · exact h
      · next hq => exact (h.unstandWindow _ hw (by simp [Window.isStanding, hk]) (Nat.le_of_not_lt hq)).kickEngine

theorem quotaAnswer (h : s.TableSound) (target : Word) (quota allowance : Nat) :
    (quotaAnswer target quota allowance s).state.TableSound := by
  unfold Machine.quotaAnswer Config.granules Config.maxAllowance
  split
  · exact h
  · split
    · exact h
    · next hv =>
      rw [not_or, Nat.not_lt, Nat.not_lt] at hv
      split
      · exact h
      · next hu => exact h.setSession _ hv.2 ⟨Nat.le_of_not_lt hu, hv.1⟩

theorem revokeAnswer (h : s.TableSound) (x : Word) (grace : Nat) : (revokeAnswer x grace s).state.TableSound := by
  unfold Machine.revokeAnswer
  split
  · exact h
  · refine State.withHandle_keeps h fun i w _ => ?_
    unfold Machine.revokeWindow
    split
    · exact (h.drainWindow _ _ i).grantScan.kickEngine
    · exact ((h.drainWindow _ _ i).markRevokedOf w).kickEngine

theorem evictAnswer (h : s.TableSound) (target : Word) : (evictAnswer target s).state.TableSound := by
  unfold Machine.evictAnswer
  split
  · exact h
  · next t _ =>
    unfold evictTarget
    split
    · exact h.endSession t _ _ _
    · exact h.setSessionState t _
    · exact h

theorem setPendingBand (h : s.TableSound) {value : Nat} (hv : value ≤ 64) : (s.setPendingBand value).TableSound :=
  h.setBand h.committed fun v e => by
    obtain rfl := Option.some.inj e
    exact hv

theorem bandAnswer (h : s.TableSound) (value grace : Nat) : (bandAnswer value grace s).state.TableSound := by
  unfold Machine.bandAnswer Config.maxBand
  split
  · exact h
  · next hv =>
    have pending : (s.setPendingBand value).TableSound := h.setPendingBand (by omega)
    unfold bandValueAnswer
    split
    · exact (pending.widen value grace).kickEngine
    · split
      · exact pending.kickEngine
      · split <;> exact h

theorem noticeAckAnswer (h : s.TableSound) (m : Master) (mask : BitVec 12) :
    (noticeAckAnswer m mask s).state.TableSound := h.setNotice m _

theorem noticeEnableAnswer (h : s.TableSound) (m : Master) (mask : BitVec 12) (line : Bool) :
    (noticeEnableAnswer m mask line s).state.TableSound := h.setNotice m _

theorem serve (h : s.TableSound) {m : Master} {code : Byte} {ok : Bool} {body : State → Answer}
    (hb : ∀ u : State, u.TableSound → (body u).state.TableSound) : (serve m code ok body s).TableSound :=
  serve_keeps (h.renewSession m) (hb _) fun _ r hu => hu.placeReply m r

theorem softStart (h : s.TableSound) : s.softStart.TableSound := (h.beginStart .soft false).setEngine _

theorem takeRestart (h : s.TableSound) (m : Master) : (takeRestart m s).TableSound := by
  unfold Machine.takeRestart
  split
  · exact h.serve fun u hu => State.gated_keeps hu fun _ => hu
  · exact (h.renewSession m).softStart

/-- Every request keeps the laws of the table, from a row of its own or from a frame. -/
theorem takeRequest (h : s.TableSound) (i : Instr) : (takeRequest i s).TableSound := by
  cases i with dsimp only [Machine.takeRequest]
  | nop m => exact h.serve fun u hu => State.gated_keeps hu fun _ => hu
  | status m => exact h.serve fun u hu => State.gated_keeps hu fun _ => hu
  | openSession m period => exact h.serve fun u hu => State.gated_keeps hu fun _ => hu.openAnswer m _
  | close m => exact h.serve fun u hu => State.gated_keeps hu fun _ => hu.closeAnswer m
  | keepalive m => exact h.serve fun u hu => State.gated_keeps hu fun _ => hu
  | claim m base size options lease limit =>
    exact h.serve fun u hu => State.gated_keeps hu fun _ => hu.claimAnswer m _
  | renew m handle ticks =>
    refine h.serve fun u hu => State.gated_keeps hu fun _ => ?_
    unfold renewAnswer
    split
    · exact hu
    · exact State.withHandle_keeps hu fun _ _ hw => hu.renewWindow m _ hw
  | release m handle =>
    exact h.serve fun u hu => State.gated_keeps hu fun _ =>
      State.withHandle_keeps hu fun _ _ _ => hu.releaseWindow m _ _
  | downgrade m handle =>
    exact h.serve fun u hu => State.gated_keeps hu fun _ =>
      State.withHandle_keeps hu fun _ _ hw => hu.downgradeWindow m hw
  | upgrade m handle =>
    exact h.serve fun u hu => State.gated_keeps hu fun _ =>
      State.withHandle_keeps hu fun _ _ hw => hu.upgradeWindow m hw
  | query m handle =>
    exact h.serve fun u hu => State.gated_keeps hu fun _ => State.withHandle_keeps hu fun _ _ hw => hu.queryWindow hw
  | list m start target => exact h.serve fun u hu => State.gated_keeps hu fun _ => hu.listAnswer m _ _
  | cancel m t => exact h.serve fun u hu => State.gated_keeps hu fun _ => hu.cancelAnswer m t
  | ticket m t => exact h.serve fun u hu => State.gated_keeps hu fun _ => hu.ticketAnswer m t
  | stand m handle =>
    exact h.serve fun u hu => State.gated_keeps hu fun _ => State.withHandle_keeps hu fun _ _ hw => hu.standAnswer m hw
  | unstand m handle =>
    exact h.serve fun u hu => State.gated_keeps hu fun _ =>
      State.withHandle_keeps hu fun _ _ hw => hu.unstandAnswer m hw
  | watchSet m base size kinds => exact h.serve fun u hu => State.gated_keeps hu fun _ => hu.watchSetAnswer m _ _ _
  | watchClear m id =>
    exact h.serve fun u hu => State.gated_keeps hu fun _ => State.withWatch_keeps hu fun k _ _ _ => hu.watchClear k
  | watchRead m id =>
    exact h.serve fun u hu => State.gated_keeps hu fun _ => State.withWatch_keeps hu fun _ _ hw _ => hu.watchRead hw
  | noticeRead m => exact h.serve fun u hu => State.gated_keeps hu fun _ => hu
  | noticeAck m mask => exact h.serve fun u hu => State.gated_keeps hu fun _ => hu.noticeAckAnswer m _
  | noticeEnable m mask line => exact h.serve fun u hu => State.gated_keeps hu fun _ => hu.noticeEnableAnswer m _ _
  | quota m target quota allowance => exact h.serve fun u hu => State.gated_keeps hu fun _ => hu.quotaAnswer _ _ _
  | revoke m handle grace => exact h.serve fun u hu => State.gated_keeps hu fun _ => hu.revokeAnswer _ _
  | evict m target => exact h.serve fun u hu => State.gated_keeps hu fun _ => hu.evictAnswer _
  | restart m => exact h.takeRestart m
  | band m value grace => exact h.serve fun u hu => State.gated_keeps hu fun _ => hu.bandAnswer _ _
  | purge m slot => exact h.serve fun u hu => State.gated_keeps hu fun _ => hu.purgeAnswer _
  | _ => exact h

end State.TableSound

end Sys2Proof.Machine
end

section
/-! PROOFS. The rules of the events for the laws of the table, and the statements that a step keeps them. -/

namespace Sys2Proof.Machine

/-! ### What the start-up read relies on -/

/-- A restored window is in range, and stands (R150). -/
theorem imageWindow_some (x : Image) (k : SlotIdx) (w : Window) (h : imageWindow x k = some w) :
    (1 ≤ w.size ∧ w.base + w.size ≤ 16384) ∧ w.isStanding = true := by
  unfold imageWindow Config.granules at h
  split at h
  · split at h
    · split at h
      · next hx =>
        obtain rfl := Option.some.inj h
        exact ⟨hx.2, rfl⟩
      · cases h
    · cases h
  · cases h

namespace State.TableSound

variable {s : State}

/-- A slot is decided: an accepted image is issued only where no window conflicts with it (R150). -/
theorem restoreSlot (h : s.TableSound) (k : SlotIdx) (room : ∀ m, (s.tally m).windows < 24) :
    (s.restoreSlot k).TableSound := by
  have reported : (s.reportRejected k).TableSound := (h.setSlot _ _).setStartUp _
  unfold State.restoreSlot
  split
  · exact h
  · exact (h.setSlot _ _).setStartUp _
  · split
    · exact reported
    · next w hw =>
      obtain ⟨range, standing⟩ := imageWindow_some _ _ _ hw
      split
      · next accepted =>
        have clear : s.blocker w.region = none := by
          simp only [State.accepts, Bool.and_eq_true, Option.isNone_iff_eq_none] at accepted
          exact accepted.1
        unfold State.restoreWindow
        split
        · exact h
        · next i hi =>
          exact (h.issue ((s.findFree_eq_some i).1 hi).1 ((s.blocker_eq_none _).1 clear) range (room _)
            fun hs => absurd hs (by simp [standing])).setSlot _ _
      · exact reported

theorem endStarting (h : s.TableSound) : s.endStarting.TableSound := by
  have entered : ({ (s.setStartUp (s.startUp.finish s.pins.maint)).setClock (some 0) with
      notices := ((s.setStartUp (s.startUp.finish s.pins.maint)).setClock (some 0)).notices.map fun n =>
        Notice.refresh n ((s.setStartUp (s.startUp.finish s.pins.maint)).setClock (some 0)).mode } :
      State).TableSound := h.of_frame rfl rfl (fun _ => ⟨rfl, rfl⟩) (fun _ he => he) rfl rfl rfl rfl
  simp only [State.endStarting]
  split
  · exact entered.endOperation
  · exact (entered.raise 0 .startloss).endOperation

end State.TableSound

/-- While a slot is read, only the slots before it can have given windows (R147, R150). -/
theorem State.safe.windows_le_of_reading {s : State} (h : s.safe) (supply : s.pins.supply = true) (k : SlotIdx)
    (reading : s.engine = .reading (.slot k)) (m : Master) : (s.tally m).windows ≤ k.val := by
  obtain ⟨-, -, tally, -, -, -, -, ⟨engine, -⟩, -, -, -, -, -, -, -, -, -, starting⟩ := h
  have mode : s.mode = .starting := by simpa [Engine.lawful, reading] using engine
  obtain ⟨-, -, -, -, unread⟩ := starting mode
  rw [(tally m).1]
  refine length_filter_finRange_le _ _ fun i hi => ?_
  by_contra hk
  have free := ((unread supply).1 i (by rw [reading]; exact Nat.le_of_not_lt hk)).1
  have none : (s.record i).window = none := by rw [WindowRecord.window, free]
  rw [none] at hi
  cases hi

/-- The value of a band-cell write in progress is a band (R142). -/
theorem State.safe.programming_le {s : State} (h : s.safe) (value : Nat) (e : s.engine = .programmingBand value) :
    value ≤ 64 := by
  obtain ⟨-, -, -, -, -, -, -, ⟨engine, -⟩, -⟩ := h
  simp only [Engine.lawful, e, decide_eq_true_eq] at engine
  exact engine.2.1

/-- The value of a VALID band cell is a band (R137). -/
theorem State.safe.cell_le {s : State} (h : s.safe) (value : Nat) (e : s.band.cell = .valid value) : value ≤ 64 := by
  obtain ⟨-, -, -, -, -, -, -, ⟨-, -, cell⟩, -⟩ := h
  exact cell value (by rw [e]; rfl)

/-! ### Events -/

namespace State.TableSound

variable {s : State}

theorem takeFrame (h : s.TableSound) (m : Master) : (s.takeFrame m).TableSound := by
  simp only [State.takeFrame]
  split
  · exact h.placeReply m _
  · exact (h.renewSession m).placeReply m _
  · exact (h.renewSession m).placeReply m _
  · exact h.takeRequest _

theorem riseLsel (h : s.TableSound) (m : Master) (ldi : Clocked) : (s.riseLsel m ldi).TableSound := by
  unfold State.riseLsel
  split
  · simp only [State.endFrame]
    split
    · exact h.setLink m _
    · split
      · exact h.setLink m _
      · exact (h.setLink m _).takeFrame m
  · exact h.setLink m _

theorem fallLsel (h : s.TableSound) (m : Master) : (s.fallLsel m).TableSound := by
  unfold State.fallLsel
  split <;> exact h.setLink m _

theorem strobe (h : s.TableSound) (a : Access) : (s.strobe a).TableSound := by
  simp only [State.strobe]
  split
  · exact h.setPins _
  · exact ((h.setPins _).applyVerdict a _).setCheck _

theorem releaseStrobe (h : s.TableSound) : s.releaseStrobe.TableSound := by
  simp only [State.releaseStrobe]
  split
  · exact (h.setPins _).setCheck _
  · exact h.setPins _

theorem advance (h : s.TableSound) : s.advance.TableSound := h.of_frame

theorem lapse (h : s.TableSound) (m : Master) : (s.lapse m).TableSound := by
  unfold State.lapse
  split
  · exact (h.endSession m _ _ _).noticeLapse m
  · exact h

theorem expireLease (h : s.TableSound) (i : RecIdx) : (s.expireLease i).TableSound := by
  unfold State.expireLease
  split
  · exact (h.retire _ i).grantScan
  · exact h

theorem warnLease (h : s.TableSound) (i : RecIdx) : (s.warnLease i).TableSound := by
  unfold State.warnLease
  split
  · exact h
  · next w hw =>
    split
    · have warn : w.warn.owner = w.owner ∧ w.warn.region = w.region ∧ w.warn.isStanding = w.isStanding := by
        unfold Window.warn
        split
        · next l hk => exact ⟨rfl, rfl, by simp [Window.isStanding, hk]⟩
        · exact ⟨rfl, rfl, rfl⟩
        · exact ⟨rfl, rfl, rfl⟩
      exact (h.setWindow_region hw warn.1 warn.2.1 warn.2.2).raise _ _
    · exact h

theorem endDrain (h : s.TableSound) (i : RecIdx) : (s.endDrain i).TableSound := by
  unfold State.endDrain
  split
  · exact h
  · split
    · exact (h.retire _ i).grantScan.kickEngine
    · exact h

theorem expireWait (h : s.TableSound) (m : Master) (t : Word) : (s.expireWait m t).TableSound := by
  unfold State.expireWait
  split
  · exact (h.removeWaiters _ _).grantScan
  · exact h

theorem slotErased (h : s.TableSound) : s.slotErased.TableSound := h.of_frame

theorem slotProgrammed (h : s.TableSound) : s.slotProgrammed.TableSound := by
  unfold State.slotProgrammed
  split
  · next k image i _ =>
    have noticed : ((s.setSlot k { s.slot k with content := .valid image }).noticeStored k i).TableSound :=
      h.of_frame
    exact noticed.endOperation
  all_goals exact h

theorem slotCleared (h : s.TableSound) : s.slotCleared.TableSound := by
  unfold State.slotCleared
  split
  · exact (h.setSlot _ _).endOperation
  all_goals exact h

theorem bandErased (h : s.TableSound) : s.bandErased.TableSound := by
  unfold State.bandErased
  split
  · exact h.setEngine _
  all_goals exact h

theorem bandProgrammed (h : s.TableSound) (value_le : ∀ v, s.engine = .programmingBand v → v ≤ 64) :
    s.bandProgrammed.TableSound := by
  unfold State.bandProgrammed
  split
  · next value he =>
    have written : (s.setBand { s.band with cell := .valid value }).TableSound := h.setBand h.committed h.pending
    simp only []
    split
    · exact written.endOperation
    · exact (written.commitBand (value_le value he)).endOperation
  all_goals exact h

theorem readBandCell (h : s.TableSound) (value_le : ∀ v, s.band.cell = .valid v → v ≤ 64) :
    s.readBandCell.TableSound := by
  unfold State.readBandCell
  split
  · split
    · next b hb =>
      exact (h.setBand (b := { s.band with committed := b, pending := none, writeDue := false }) (value_le b hb)
        (by simp)).setEngine _
    · exact ((h.setBand (b := { s.band with committed := 64, pending := some 64, writeDue := true }) (le_refl 64)
        (by simp)).setStartUp _).setEngine _
  all_goals exact h

theorem readSlot (h : s.TableSound) (maint : Bool)
    (room : ∀ k, s.engine = .reading (.slot k) → ∀ m, (s.tally m).windows < 24) : (s.readSlot maint).TableSound := by
  unfold State.readSlot
  split
  · next k he =>
    have decided := (h.setPins { s.pins with maint := maint }).restoreSlot k (room k he)
    simp only []
    split
    · exact decided.setEngine _
    · exact decided.endStarting
  all_goals exact h

theorem endHold (h : s.TableSound) : s.endHold.TableSound := by
  simp only [State.endHold]
  split
  · split
    · exact h.setStartUp _
    · exact (h.setStartUp _).setEngine _
  · exact h

theorem assertReset (h : s.TableSound) : s.assertReset.TableSound := by
  simp only [State.assertReset]
  split
  · exact (h.setPins _).beginStart _ _
  · exact h.setPins _

theorem releaseReset (h : s.TableSound) : s.releaseReset.TableSound := by
  simp only [State.releaseReset]
  split
  · exact (h.setPins _).setEngine _
  · exact h.setPins _

theorem loseSupply (h : s.TableSound) : s.loseSupply.TableSound :=
  ((h.breakPhase.setEngine .idle).setStartUp _).setPins _

theorem loseRetention (h : s.TableSound) (k : SlotIdx) (image : Image) : (s.loseRetention k image).TableSound :=
  h.of_frame

end State.TableSound

/-! ### Every step -/

/-- Every command keeps the laws of the table. -/
theorem exec_tableSound (c : Instr) {s t : State} (h : s.safe) (hn : exec c s = .next t) : t.TableSound := by
  have hs := State.safe.tableSound h
  cases hr : requestParts c with
  | some parts =>
    rw [exec_request c s (by simp [hr])] at hn
    exact whenPowered_keeps hs (fun _ => hs.takeRequest c) hn
  | none =>
    cases c with
    | frameEnd link ldi => exact Host.Outcome.next.inj hn ▸ hs.riseLsel link ldi
    | checkStrobe cmas cadr cspan cwr =>
      exact whenPowered_keeps (f := (·.strobe ⟨cmas, cadr, cspan, cwr⟩)) hs (fun _ => hs.strobe _) hn
    | checkRelease => exact whenPowered_keeps hs (fun _ => hs.releaseStrobe) hn
    | tick => exact whenPowered_keeps hs (fun _ => hs.advance) hn
    | lapse m => exact whenPowered_keeps hs (fun _ => hs.lapse m) hn
    | leaseExpiry i => exact whenPowered_keeps hs (fun _ => hs.expireLease i) hn
    | leaselowWarning i => exact whenPowered_keeps (f := (·.warnLease i)) hs (fun _ => hs.warnLease i) hn
    | drainEnd i => exact whenPowered_keeps (f := (·.endDrain i)) hs (fun _ => hs.endDrain i) hn
    | waitExpiry m ticket => exact whenPowered_keeps hs (fun _ => hs.expireWait m ticket) hn
    | slotEraseDone => exact whenPowered_keeps hs (fun _ => hs.slotErased) hn
    | slotProgramDone => exact whenPowered_keeps hs (fun _ => hs.slotProgrammed) hn
    | clearDone => exact whenPowered_keeps hs (fun _ => hs.slotCleared) hn
    | bandEraseDone => exact whenPowered_keeps hs (fun _ => hs.bandErased) hn
    | bandProgramDone =>
      exact whenPowered_keeps hs (fun _ => hs.bandProgrammed (State.safe.programming_le h)) hn
    | bandCellRead => exact whenPowered_keeps hs (fun _ => hs.readBandCell (State.safe.cell_le h)) hn
    | slotRead maint =>
      refine whenPowered_keeps (f := (·.readSlot maint)) hs (fun supply => hs.readSlot maint fun k reading m => ?_) hn
      have := State.safe.windows_le_of_reading h supply k reading m
      omega
    | powerStart => exact Host.Outcome.next.inj hn ▸ (hs.beginStart .power true).setPins _
    | powerOnHoldEnd => exact whenPowered_keeps hs (fun _ => hs.endHold) hn
    | lineStart => exact Host.Outcome.next.inj hn ▸ hs.assertReset
    | resetRelease => exact Host.Outcome.next.inj hn ▸ hs.releaseReset
    | supplyLoss => exact whenPowered_keeps hs (fun _ => hs.loseSupply) hn
    | lselFall link => exact Host.Outcome.next.inj hn ▸ hs.fallLsel link
    | lossOfRetention slot image => exact Host.Outcome.next.inj hn ▸ hs.loseRetention slot image
    | _ => cases hr

/-- A step runs a command on the state with the queue's rest, which no law reads, or idles. -/
theorem step_cases {s t : State} (hn : step s = .next t) :
    t = s ∨ ∃ c rest, exec c { s with pending := rest } = .next t := by
  unfold step at hn
  split at hn
  · exact .inl (Host.Outcome.next.inj hn).symm
  · next c rest _ => exact .inr ⟨c, rest, hn⟩

/-- The laws do not read the queue of commands. -/
theorem State.safe.with_pending {s : State} (h : s.safe) (rest : List Instr) :
    ({ s with pending := rest } : State).safe := h

/-- Every step keeps the laws of the table. -/
theorem step_tableSound {s t : State} (h : s.safe) (hn : step s = .next t) : t.TableSound := by
  rcases step_cases hn with rfl | ⟨c, rest, hc⟩
  · exact State.safe.tableSound h
  · exact exec_tableSound c (State.safe.with_pending h rest) hc

end Sys2Proof.Machine

open Sys2Proof Sys2Proof.Machine

/-- Settles O53: every operation keeps the conflict law together with the other laws of the table; the grant scan, an
immediate grant, an UPGRADE and a restore each test for a conflict before they write. -/
theorem conflictLawKept : Obligations.ConflictLawKept := fun _ _ h hn => (step_tableSound h hn).conflict

/-- Settles O55: one changed record changes the sums over the table by what it counts for, and every operation that
changes one changes its owner's tallies by the same. -/
theorem tallyLawKept : Obligations.TallyLawKept := fun _ _ h hn =>
  ⟨(step_tableSound h hn).tally, (step_tableSound h hn).rangeLaw⟩

end

section
/-! PROOFS. The conflict relation (R12) and the retire procedure (R17 to R19). -/

namespace Sys2Proof.Machine

/-- Two ranges overlap exactly when each begins below the other's end. -/
theorem Region.overlaps_iff (a b : Region) :
    a.overlaps b = true ↔ a.base < b.base + b.size ∧ b.base < a.base + a.size := by
  simp [Region.overlaps, rangesOverlap]

/-- Two ranges that hold a granule overlap exactly when they share one: the later of the two bases is one. -/
theorem Region.overlaps_iff_shared (a b : Region) (ha : 1 ≤ a.size) (hb : 1 ≤ b.size) :
    a.overlaps b = true ↔ ∃ g, (a.base ≤ g ∧ g < a.base + a.size) ∧ b.base ≤ g ∧ g < b.base + b.size := by
  rw [Region.overlaps_iff]
  constructor
  · intro h
    exact ⟨max a.base b.base, by omega, by omega⟩
  · rintro ⟨g, _, _⟩
    omega

theorem Region.conflicts_iff (a b : Region) :
    a.conflicts b = true ↔ a.overlaps b = true ∧ (a.mode = .write ∨ b.mode = .write) := by
  simp [Region.conflicts]

/-! ### The retire procedure -/

/-- One changed record changes the FREE record count by what it counts for. -/
theorem State.freeCount_replace {s t : State} {i : RecIdx} (h : ∀ j, j ≠ i → t.record j = s.record j) :
    t.freeCount + (s.record i).isFree.toNat = s.freeCount + (t.record i).isFree.toNat := by
  unfold State.freeCount
  rw [length_filter_eq_sum, length_filter_eq_sum]
  exact sum_finRange_replace (fun j => (t.record j).isFree.toNat) (fun j => (s.record j).isFree.toNat) i
    fun j hj => congrArg (fun r : WindowRecord => r.isFree.toNat) (h j hj)

/-- The notices a raise leaves follow from the notices and the mode it finds. -/
theorem State.raise_notices_congr {s t : State} (m : Master) (f : Flag) (notices : t.notices = s.notices)
    (startUp : t.startUp = s.startUp) : (t.raise m f).notices = (s.raise m f).notices := by
  simp [State.raise, State.setNotice, State.notice, State.mode, notices, startUp]

section
variable (s : State) (cause : RetireCause) {i : RecIdx} {w : Window}

/-- A retire raises the notice of its cause for the owner (R18). -/
theorem State.retire_notices (hw : (s.record i).window = some w) :
    (s.retire cause i).notices = (s.raiseIf w.owner cause.notice).notices := by
  simp only [State.retire, hw]
  cases cause.notice with
  | none => simp [State.raiseIf_none]
  | some f => exact State.raise_notices_congr _ _ (by simp) (by simp)

/-- The retire of a SESSION or TIMED window touches no slot (R19). -/
theorem State.retire_slots (hw : (s.record i).window = some w) (hs : w.isStanding = false) :
    (s.retire cause i).slots = s.slots := by
  simp only [State.retire, hw, State.raiseIf_slots]
  unfold State.releaseSlotOf
  split
  · next hk => simp [Window.isStanding, hk] at hs
  · simp
  · simp

/-- The retire of a STANDING window releases its slot, and touches no other (R19). -/
theorem State.retire_slot (hw : (s.record i).window = some w) {k : SlotIdx} (hk : w.kind = .standing k)
    (j : SlotIdx) : (s.retire cause i).slot j =
      if k = j then (s.slot k).release (s.engine.workOn k) else s.slot j := by
  simp [State.retire, hw, State.releaseSlotOf, hk, State.changeSlot_slot]

end

theorem Slot.untouched_iff (x : Slot) (work : Option SlotWork) :
    x.untouched work = true ↔ x.content = .blank ∧ x.mark = .none ∧ work = none := by
  simp [Slot.untouched, and_assoc]

/-- A slot that is BLANK, unmarked and idle is free after its window's retire. -/
theorem Slot.release_of_untouched (x : Slot) (work : Option SlotWork) (content : x.content = .blank)
    (mark : x.mark = .none) (idle : work = none) : x.release work = ⟨.blank, none, .none⟩ := by
  rw [Slot.release, if_pos ((x.untouched_iff work).2 ⟨content, mark, idle⟩), content, mark]

/-- Any other slot is marked CLEAR_DUE, with its content. -/
theorem Slot.release_of_touched (x : Slot) (work : Option SlotWork)
    (h : x.content ≠ .blank ∨ x.mark ≠ .none ∨ work ≠ none) : x.release work = ⟨x.content, none, .clearDue⟩ := by
  rw [Slot.release, if_neg]
  rw [x.untouched_iff work]
  tauto

end Sys2Proof.Machine

open Sys2Proof Sys2Proof.Machine

/-- Settles O33. -/
theorem conflictRelation : Obligations.ConflictRelation := fun a b ha hb =>
  ⟨a.overlaps_iff_shared b ha hb, a.overlaps_iff b, a.conflicts_iff b⟩

/-- Settles O34, field by field from the rules of the retire procedure. -/
theorem retireProcedure : Obligations.RetireProcedure := by
  intro s cause i w hheld t
  have hw : (s.record i).window = some w := (WindowRecord.window_eq_some _ w).2 hheld
  have hrec : t.record i = ⟨(s.record i).generation, .free (some cause)⟩ := by
    rw [State.retire_record s cause i w hw, if_pos rfl]
  have hother : ∀ j, j ≠ i → t.record j = s.record j := fun j hj => State.retire_record_ne s cause i j hj.symm
  have hfree := State.freeCount_replace hother
  have hnotices := State.retire_notices s cause hw
  refine ⟨hrec, hother, ?_, ?_, fun m hm => ?_, State.retire_slots s cause hw, fun k hk => ⟨fun j hj => ?_, ?_, ?_⟩,
    ?_, ?_, ?_, by simp [t], by simp [t], by simp [t], by simp [t], by simp [t], by simp [t], by simp [t],
    by simp [t], by simp [t], by simp [t], by simp [t]⟩
  · rw [hrec] at hfree
    simpa [WindowRecord.isFree, hw] using hfree
  · rw [State.retire_tally s cause i w hw, if_pos rfl]
    cases hs : w.isStanding <;> simp [Tally.remove, hs]
  · rw [State.retire_tally s cause i w hw, if_neg hm.symm]
  · rw [State.retire_slot s cause hw hk, if_neg hj.symm]
  · intro content mark idle
    rw [State.retire_slot s cause hw hk, if_pos rfl, Slot.release_of_untouched _ _ content mark idle]
  · intro touched
    rw [State.retire_slot s cause hw hk, if_pos rfl, Slot.release_of_touched _ _ touched]
  · rintro (rfl | rfl | rfl) <;> exact hnotices
  · rintro rfl
    exact hnotices
  · rintro (rfl | rfl | rfl | rfl) <;> exact hnotices

end

section
/-! PROOFS. Requests that name a handle (R10), QUERY (R43), REVOKE (R86 to R89) and an immediate grant (R29). -/

namespace Sys2Proof.Machine

/-! ### A request past the tests all requests share -/

/-- The state an answer leaves with its reply in the sender's reply slot (R161). -/
def Answer.reply (a : Answer) (m : Master) (code : Byte) : State :=
  a.state.placeReply m ⟨a.status, code, a.results⟩

theorem serve_reply (m : Master) (code : Byte) (body : State → Answer) (s : State) :
    serve m code true body s = (body (s.renewSession m)).reply m code := rfl

/-- A request whose tests pass is answered by what follows them. -/
theorem serve_gated (m : Master) (code : Byte) (gate : State → Option Status) (rest : State → Answer) (s : State)
    (hg : gate (s.renewSession m) = none) :
    serve m code true (fun u => u.gated (gate u) (rest u)) s = (rest (s.renewSession m)).reply m code := by
  rw [serve_reply, hg, State.gated_none]

section
variable {s : State} {m : Master} {h : Word}

theorem renewed_openGate (ho : s.takesOpen m) : (s.renewSession m).openGate m = none := by
  rw [State.renewSession_openGate, State.openGate_none s m ho]

theorem renewed_partGate (ht : s.takes m) : (s.renewSession m).partGate m = none := by
  rw [State.renewSession_partGate, State.partGate_none s m ht]

theorem renewed_supervisorGate (ho : s.takesOpen 0) : (s.renewSession 0).supervisorGate 0 = none := by
  rw [State.renewSession_supervisorGate, State.supervisorGate_none s ho]

/-- QUERY goes on with the window its handle names, in every session state (R24, R43). -/
theorem exec_query (ht : s.takes m) (hf : handleFormatOk h = true) : exec (.query m h) s =
    .next (((s.renewSession m).withHandle h (queryWindow (s.renewSession m))).reply m 0x15) := by
  refine (whenPowered_next _ s ht.1).trans ?_
  rw [takeQuery, hf, serve_gated _ _ (·.partGate m) _ _ (renewed_partGate ht)]

/-- REVOKE goes on to its own tests for master 0 (R82, R86). -/
theorem exec_revoke (grace : Word) (ho : s.takesOpen 0) (hf : handleFormatOk h = true) : exec (.revoke 0 h grace) s =
    .next ((revokeAnswer h grace.toNat (s.renewSession 0)).reply 0 0x41) := by
  refine (whenPowered_next _ s ho.1.1).trans ?_
  rw [takeRevoke, hf, serve_gated _ _ (·.supervisorGate 0) _ _ (renewed_supervisorGate ho)]

/-! ### Handles -/

theorem State.withHandle_stale (s : State) (h : Word) (f : RecIdx → Window → Answer)
    (hg : (s.record (handleIndex h)).generation ≠ handleGeneration h) : s.withHandle h f = s.refuse .stale := by
  rw [State.withHandle, s.resolve_stale h hg]

theorem State.withHandle_gone (s : State) (h : Word) (f : RecIdx → Window → Answer) (cause : Option RetireCause)
    (hg : (s.record (handleIndex h)).generation = handleGeneration h)
    (hf : (s.record (handleIndex h)).holding = .free cause) :
    s.withHandle h f = s.gone (cause.elim 0 RetireCause.code) := by
  rw [State.withHandle, s.resolve_gone h cause hg hf]

theorem State.withHandle_held (s : State) (h : Word) (f : RecIdx → Window → Answer) (w : Window) (hn : s.names h w) :
    s.withHandle h f = f (handleIndex h) w := by
  rw [State.withHandle, s.resolve_held h w hn]

theorem State.renewSession_names (s : State) (m : Master) (h : Word) (w : Window) :
    (s.renewSession m).names h w ↔ s.names h w := by simp [State.names]

/-- A request of the owner goes on with the window its handle names (R24). -/
theorem whenPowered_serve_handle (code : Byte) (f : State → RecIdx → Window → Answer) (ho : s.takesOpen m)
    (hf : handleFormatOk h = true) :
    whenPowered (serve m code (handleFormatOk h) fun u => u.gated (u.openGate m) (u.withHandle h (f u))) s =
      .next (((s.renewSession m).withHandle h (f (s.renewSession m))).reply m code) := by
  rw [whenPowered_next _ s ho.1.1, hf, serve_gated _ _ (·.openGate m) _ _ (renewed_openGate ho)]

/-- RENEW goes on with the window its handle names when its length is in range (R33). -/
theorem exec_renew (ticks : Word) (ho : s.takesOpen m) (hf : handleFormatOk h = true) (range : ticks.toNat ≤ 60000) :
    exec (.renew m h ticks) s =
      .next (((s.renewSession m).withHandle h (renewWindow m ticks.toNat (s.renewSession m))).reply m 0x11) := by
  refine (whenPowered_next _ s ho.1.1).trans ?_
  rw [takeRenew, hf, serve_gated _ _ (·.openGate m) _ _ (renewed_openGate ho), renewAnswer, Config.maxTicks,
    if_neg (Nat.not_lt.2 range)]

/-- Every request that names a handle, its other operand in range, goes on with the handle once the tests before it
pass (R24, R82). -/
theorem exec_handleRequest (i : Instr) (code : Nat) (ops : List Word) (hp : requestParts i = some (m, code, ops))
    (ht : s.takes m) (hw : i.wellFormed = true) (hs : i.testsSession = true → (s.session m).state.isOpen = true)
    (hm : i.isSupervisor = true → m = 0) (hh : i.handleInRange = some h) :
    ∃ f, exec i s = .next (((s.renewSession m).withHandle h f).reply m (BitVec.ofNat 8 code)) := by
  cases i with
  | renew k handle ticks =>
    cases hp
    obtain ⟨range, rfl⟩ : ticks.toNat ≤ 60000 ∧ handle = h := by simpa [Instr.handleInRange] using hh
    exact ⟨_, exec_renew ticks ⟨ht, hs rfl⟩ hw range⟩
  | revoke k handle grace =>
    cases hp
    obtain ⟨range, rfl⟩ : grace.toNat ≤ 60000 ∧ handle = h := by simpa [Instr.handleInRange] using hh
    obtain rfl := hm rfl
    refine ⟨revokeWindow grace.toNat (s.renewSession 0), ?_⟩
    rw [exec_revoke grace ⟨ht, hs rfl⟩ hw, revokeAnswer, Config.maxTicks, if_neg (Nat.not_lt.2 range)]
    rfl
  | query k handle =>
    cases hp; cases hh
    exact ⟨_, exec_query ht hw⟩
  | release k handle =>
    cases hp; cases hh
    exact ⟨_, whenPowered_serve_handle 0x12 (releaseWindow m) ⟨ht, hs rfl⟩ hw⟩
  | downgrade k handle =>
    cases hp; cases hh
    exact ⟨_, whenPowered_serve_handle 0x13 (downgradeWindow m) ⟨ht, hs rfl⟩ hw⟩
  | upgrade k handle =>
    cases hp; cases hh
    exact ⟨_, whenPowered_serve_handle 0x14 (upgradeWindow m) ⟨ht, hs rfl⟩ hw⟩
  | stand k handle =>
    cases hp; cases hh
    exact ⟨_, whenPowered_serve_handle 0x20 (standAnswer m) ⟨ht, hs rfl⟩ hw⟩
  | unstand k handle =>
    cases hp; cases hh
    exact ⟨_, whenPowered_serve_handle 0x21 (unstandAnswer m) ⟨ht, hs rfl⟩ hw⟩
  | _ => cases hh

end

/-! ### What a window summary carries -/

/-- The status word of a summary, field by field (section 11.4). -/
theorem summary_statusWord (persistence kind owner : Nat) (touched draining write : Bool) (hp : persistence < 8)
    (hk : kind < 4) (ho : owner < 8) :
    word (256 * persistence + 128 * touched.toNat + 64 * draining.toNat + 16 * kind + 8 * write.toNat + owner) =
      0#5 ++ BitVec.ofNat 3 persistence ++ BitVec.ofBool touched ++ BitVec.ofBool draining ++ BitVec.ofNat 2 kind ++
        BitVec.ofBool write ++ BitVec.ofNat 3 owner := by
  have := Bool.toNat_le touched
  have := Bool.toNat_le draining
  have := Bool.toNat_le write
  apply BitVec.eq_of_toNat_eq
  simp only [toNat_fields, toNat_ofBool_field, word, BitVec.toNat_ofNat]
  omega

theorem Persistence.code_lt (p : Persistence) : p.code < 8 := by cases p <;> decide

theorem LeaseKind.code_lt (k : LeaseKind) : k.code < 4 := by cases k <;> simp [LeaseKind.code]

/-- The five words of a summary (R23, section 11.4). -/
theorem State.summary_eq (s : State) (i : RecIdx) (w : Window) : s.summary i w =
    [(s.record i).generation ++ BitVec.ofNat 8 i.val, BitVec.ofNat 16 w.base, BitVec.ofNat 16 w.size,
      0#5 ++ BitVec.ofNat 3 (s.persistence w).code ++ BitVec.ofBool w.touched ++ BitVec.ofBool w.drain.isSome ++
        BitVec.ofNat 2 w.kind.code ++ BitVec.ofBool (decide (w.mode = .write)) ++ BitVec.ofNat 3 w.owner.val,
      BitVec.ofNat 16 (s.remaining w)] := by
  have := w.owner.isLt
  rw [State.summary, handleWord_fields,
    summary_statusWord _ _ _ _ _ _ (Persistence.code_lt _) (LeaseKind.code_lt _) (by omega)]
  rfl

/-- The remaining ticks of a TIMED window (R23). -/
theorem State.remaining_timed (s : State) (w : Window) (l : Lease) (hk : w.kind = .timed l) :
    s.remaining w = w.drain.elim (s.ticksTo l.deadline) fun d => min (s.ticksTo l.deadline) (s.ticksTo d.deadline) := by
  unfold State.remaining
  rw [hk]
  cases w.drain <;> rfl

/-- The remaining ticks of a SESSION or STANDING window (R23). -/
theorem State.remaining_untimed (s : State) (w : Window) (hk : ∀ l, w.kind ≠ .timed l) :
    s.remaining w = w.drain.elim 0 fun d => s.ticksTo d.deadline := by
  unfold State.remaining
  cases hw : w.kind with
  | timed l => exact absurd hw (hk l)
  | session => cases w.drain <;> rfl
  | standing k => cases w.drain <;> rfl

/-- The rows of R23's table of persistences. -/
theorem Slot.persistence_rows (x : Slot) (work : Option SlotWork) :
    (x.mark = .clearDue ∨ work = some .clear → x.persistence work = .clearing) ∧
    (x.content = .blank → x.mark = .none → work = none → x.binding ≠ none → x.persistence work = .clearing) ∧
    (x.mark = .writeDue → work = none → x.persistence work = .queued) ∧
    (x.mark ≠ .clearDue → work = some .write → x.persistence work = .writing) ∧
    (∀ image, x.content = .valid image → x.mark = .none → work = none → x.persistence work = .stored) := by
  refine ⟨fun h => ?_, fun content mark idle bound => ?_, fun mark idle => ?_, fun mark writing => ?_,
    fun image content mark idle => ?_⟩
  · rw [Slot.persistence, if_pos h]
  · have untouched := (x.untouched_iff work).2 ⟨content, mark, idle⟩
    simp [Slot.persistence, mark, idle, idle ▸ untouched, Option.isSome_iff_ne_none, bound]
  · simp [Slot.persistence, mark, idle, Slot.untouched]
  · simp [Slot.persistence, mark, writing, Slot.untouched]
  · simp [Slot.persistence, content, mark, idle, Slot.untouched, SlotContent.isValid]

/-! ### An immediate grant -/

theorem Tally.add_of_not_standing (t : Tally) (w : Window) (h : w.isStanding = false) :
    t.add w = ⟨t.usage + w.size, t.windows + 1⟩ := by simp [Tally.add, h]

/-- A claim is granted a SESSION or TIMED window (R7). -/
theorem State.claimedWindow_isStanding (s : State) (m : Master) (c : ClaimOperands) :
    (s.claimedWindow m c).isStanding = false := by
  unfold State.claimedWindow
  cases c.length <;> rfl

/-! ### Drains by REVOKE -/

/-- The drain deadline a request leaves on a window, as its two cases say (R4). -/
theorem State.drainOf_eq (s : State) (w : Window) (cause : DrainCause) (grace : Nat) (deadline : Tick)
    (live : w.drain = none → deadline = s.after grace)
    (draining : ∀ d, w.drain = some d → deadline =
      if s.ticksTo d.deadline ≤ s.ticksTo (s.after grace) then d.deadline else s.after grace) :
    s.drainOf w cause grace = ⟨deadline, cause⟩ := by
  unfold State.drainOf
  cases hd : w.drain with
  | none => rw [live hd]
  | some d => rw [draining d hd]; rfl

@[simp] theorem State.renewSession_drainOf (s : State) (m : Master) (w : Window) (cause : DrainCause) (grace : Nat) :
    (s.renewSession m).drainOf w cause grace = s.drainOf w cause grace := by
  simp [State.drainOf, State.earlier]

/-- A drain with a grace of 1 or more writes the drain fields and raises REVOKING (R87, R88). -/
theorem State.drainWindow_grace (s : State) (cause : DrainCause) (grace : Nat) (i : RecIdx) (w : Window)
    (hw : (s.record i).window = some w) (hg : grace ≠ 0) : s.drainWindow cause grace i =
      (s.setRecord i ⟨(s.record i).generation, .held { w with drain := some (s.drainOf w cause grace) }⟩).raise w.owner
        .revoking := by
  simp only [State.drainWindow, hw, if_neg hg]
  rfl

theorem State.drainWindow_zero (s : State) (cause : DrainCause) (i : RecIdx) (w : Window)
    (hw : (s.record i).window = some w) : s.drainWindow cause 0 i = s.retire cause.retireCause i := by
  simp [State.drainWindow, hw]

end Sys2Proof.Machine

open Sys2Proof Sys2Proof.Machine

/-- Settles O8: every request that names a handle goes on through `State.withHandle`, which answers STALE and GONE. -/
theorem handleTests : Obligations.HandleTests := by
  refine ⟨fun i s m code ops h hp ht hw hs hm hh => ?_, rfl⟩
  obtain ⟨f, hexec⟩ := exec_handleRequest i code ops hp ht hw hs hm hh
  refine ⟨fun hg => ?_, fun hg cause hf => ?_⟩
  · rw [State.withHandle_stale _ _ _ (by simpa using hg)] at hexec
    exact hexec
  · rw [State.withHandle_gone _ _ _ cause (by simpa using hg) (by simpa using hf)] at hexec
    exact hexec

/-- Settles O16: the tests of `claimAnswer` are the hypotheses, after the renewal. -/
theorem claimGranted : Obligations.ClaimGranted := by
  intro c m s i hc ho hrange hfits hclear hfree generation
  have fits : (s.renewSession m).claimFault m c = none :=
    (State.claimFault_eq_none _ m c).2 (by simpa [State.claimFits] using hfits)
  have grant : (s.renewSession m).claimGrant c.region = some i :=
    (State.claimGrant_eq_some _ c i).2 ⟨by simpa [State.claimClear, State.noneInForce] using hclear,
      by simpa [State.lowestFree] using hfree⟩
  have kind : (s.renewSession m).leaseFor c.length = s.issuedKind (leaseLength c.lease) := by
    rw [State.leaseFor_eq, ClaimOperands.length, leaseLength]
    split <;> simp [State.issuedKind]
  have issued : (s.renewSession m).issue i ((s.renewSession m).claimedWindow m c) =
      ((s.renewSession m).setRecord i ⟨generation, .held
          ⟨m, c.base, c.size, c.mode, s.issuedKind (leaseLength c.lease), none, 0, false⟩⟩).setTally m
        ⟨(s.tally m).usage + c.size, (s.tally m).windows + 1⟩ := by
    rw [State.issue, Tally.add_of_not_standing _ _ (State.claimedWindow_isStanding _ m c)]
    simp [State.claimedWindow, kind, generation, nextGeneration]
  have answer : claimAnswer m c (s.renewSession m) =
      State.ok ((s.renewSession m).issue i ((s.renewSession m).claimedWindow m c))
        [((s.renewSession m).issue i ((s.renewSession m).claimedWindow m c)).handle i] := by
    simp only [claimAnswer, c.rangeFault_eq_none.2 hrange, fits, grant, State.gated_none]
  rw [answered, c.exec_command m s hc ho, answer, issued]
  simp [State.ok, State.handle, handleWord_fields]

/-- Settles O22, from the layout of the summary, the cases of the remaining ticks and the rows of the persistence. -/
theorem queryReply : Obligations.QueryReply := by
  refine ⟨fun m h s w ht hf hn => ?_, fun s i w => s.summary_eq i w, fun s w l d => ⟨?_, ?_, ?_, ?_⟩,
    ⟨rfl, rfl, fun _ => rfl, fun _ => rfl⟩, fun s w hs => ?_, fun s w k hk => ?_⟩
  · have names := (s.renewSession_names m h w).2 hn
    rw [answered, exec_query ht hf, State.withHandle_held _ _ _ w names]
    simp [queryWindow, State.ok, Answer.reply, State.setWindow, hn.1]
  · intro hd hk
    rw [s.remaining_timed w l hk, hd]
    rfl
  · intro hd hk
    rw [s.remaining_untimed w hk, hd]
    rfl
  · intro hd hk
    rw [s.remaining_untimed w hk, hd]
    rfl
  · intro hd hk
    rw [s.remaining_timed w l hk, hd]
    rfl
  · unfold State.persistence
    split
    · next hk => simp [Window.isStanding, hk] at hs
    · rfl
    · rfl
  · have slot : s.persistence w = (s.slot k).persistence (s.engine.workOn k) := by rw [State.persistence, hk]
    rw [slot]
    exact (s.slot k).persistence_rows (s.engine.workOn k)

/-- Settles O29, from the two ways a drain request reaches a window. -/
theorem revokeRequest : Obligations.RevokeRequest := by
  intro h grace s ho hf
  have answer := exec_revoke grace ho hf
  refine ⟨fun hg => ?_, fun w hn => ⟨?_, fun deadline hg hmax live draining => ?_⟩⟩
  · rw [revokeAnswer, Config.maxTicks, if_pos hg] at answer
    exact answer
  all_goals
    have names := (s.renewSession_names 0 h w).2 hn
    have hw : ((s.renewSession 0).record (handleIndex h)).window = some w :=
      (WindowRecord.window_eq_some _ w).2 names.2
  · rintro rfl
    rw [show (0 : Word).toNat = 0 from rfl, revokeAnswer, if_neg (Nat.not_lt_zero _),
      State.withHandle_held _ _ _ w names, revokeWindow, if_pos rfl, State.drainWindow_zero _ _ _ w hw] at answer
    exact answer
  · have zero : grace.toNat ≠ 0 := by omega
    rw [revokeAnswer, Config.maxTicks, if_neg (by omega), State.withHandle_held _ _ _ w names, revokeWindow,
      if_neg zero, State.drainWindow_grace _ _ _ _ w hw zero, State.renewSession_drainOf,
      s.drainOf_eq w .revoked grace.toNat deadline live draining, names.1, State.renewSession_ticksTo] at answer
    exact answer

end

section
/-! PROOFS. The beginning of a start and the loss of supply (R132, R145, R147). -/

namespace Sys2Proof.Machine

/-! ### A phase that is broken off -/

/-- Of the slots, the target of the phase in progress is DAMAGED, and no other has changed its content (R132). -/
theorem State.breakPhase_content (s : State) (k : SlotIdx) : (s.breakPhase.slot k).content =
    if s.engine.workOn k = none then (s.slot k).content else .damaged := by
  have target : ∀ j : SlotIdx, ((s.setSlot j { s.slot j with content := .damaged }).slot k).content =
      if j = k then .damaged else (s.slot k).content := fun j => by
    rw [State.setSlot_slot]
    split <;> rfl
  unfold State.breakPhase Engine.workOn
  cases s.engine with
  | erasingForWrite j _ _ | programmingSlot j _ _ | erasingForClear j =>
    rw [target]
    by_cases e : j = k <;> simp [e]
  | idle | reading _ | erasingBand _ | programmingBand _ => rfl

/-- A band-cell write in progress leaves the cell DAMAGED (R145). -/
theorem State.breakPhase_cell_damaged (s : State) (v : Nat)
    (h : s.engine = .erasingBand v ∨ s.engine = .programmingBand v) : s.breakPhase.band.cell = .damaged := by
  rcases h with h | h <;> simp [State.breakPhase, h]

/-- No other phase touches the band cell. -/
theorem State.breakPhase_cell (s : State) (h : ∀ v, s.engine ≠ .erasingBand v ∧ s.engine ≠ .programmingBand v) :
    s.breakPhase.band.cell = s.band.cell := by
  unfold State.breakPhase
  cases e : s.engine with
  | erasingBand v => exact absurd e (h v).1
  | programmingBand v => exact absurd e (h v).2
  | erasingForWrite _ _ _ | programmingSlot _ _ _ | erasingForClear _ | idle | reading _ => rfl

/-- A later state has the cells of a state whose phase in progress was broken off (R132, R145). -/
def State.BrokenOff (s t : State) : Prop :=
  (∀ k, (t.slot k).content = if s.engine.workOn k = none then (s.slot k).content else .damaged) ∧
  ((∃ v, s.engine = .erasingBand v ∨ s.engine = .programmingBand v) → t.band.cell = .damaged) ∧
  ((∀ v, s.engine ≠ .erasingBand v ∧ s.engine ≠ .programmingBand v) → t.band.cell = s.band.cell)

/-- A state has begun a start of this cause, from an earlier one (R147). -/
def State.Begun (s t : State) (cause : StartCause) : Prop :=
  s.BrokenOff t ∧ t.mode = .starting ∧ t.startUp.cause = cause ∧ t.startUp.maintenance = false ∧
  t.startUp.damaged = 0 ∧ t.startUp.rejected = 0 ∧ t.startUp.bandDamaged = false ∧ t.clock = none ∧
  t.queue = [] ∧ (∀ i, t.record i = ⟨0, .free none⟩) ∧
  (∀ m, t.tally m = ⟨0, 0⟩ ∧ t.failureList m = [] ∧ t.notice m = ⟨0, 0, false, none, false, false⟩) ∧
  t.session 0 = ⟨.closed, 16384, 12, 1⟩ ∧ (∀ m, m ≠ 0 → t.session m = ⟨.closed, 4096, 0, 1⟩) ∧
  (∀ k, t.watch k = .free) ∧ t.check = ⟨.ready, ⟨false, false, 0, 63⟩⟩ ∧
  (∀ m, (t.link m).phase = .idle ∧ (t.link m).buffer = [] ∧ (t.link m).reply = none ∧
    (t.link m).shiftOut = (s.link m).shiftOut ∧ (t.link m).lselLow = (s.link m).lselLow ∧
    (t.link m).ldo = if (s.link m).lselLow = true then some false else none) ∧
  (∀ k, (t.slot k).binding = none ∧ (t.slot k).mark = .none) ∧ t.band.pending = none ∧ t.band.writeDue = false

theorem State.brokenOff_breakPhase (s : State) : s.BrokenOff s.breakPhase :=
  ⟨s.breakPhase_content, fun ⟨v, h⟩ => s.breakPhase_cell_damaged v h, s.breakPhase_cell⟩

theorem State.begun_beginStart (s : State) (cause : StartCause) (hold : Bool) :
    s.Begun (s.beginStart cause hold) cause := by
  obtain ⟨content, damaged, kept⟩ := s.brokenOff_breakPhase
  refine ⟨⟨fun k => ?_, damaged, kept⟩, rfl, rfl, rfl, rfl, rfl, rfl, rfl, rfl, fun i => by simp,
    fun m => ⟨by simp, by simp, by simp [Notice.atStart]⟩, by simp [Session.atStart],
    fun m hm => by simp [Session.atStart, hm], fun k => by simp, rfl, fun m => ?_, fun k => ?_, rfl, rfl⟩
  · rw [State.beginStart_slot]
    exact content k
  · rw [State.beginStart_link]
    exact ⟨rfl, rfl, rfl, rfl, rfl, rfl⟩
  · rw [State.beginStart_slot]
    exact ⟨rfl, rfl⟩

/-- A renewal before the start changes nothing a start keeps. -/
theorem State.begun_of_renewSession (s t : State) (m : Master) (cause : StartCause)
    (h : (s.renewSession m).Begun t cause) : s.Begun t cause := by
  simpa only [State.Begun, State.BrokenOff, State.renewSession_engine, State.renewSession_slot,
    State.renewSession_band, State.renewSession_link] using h

/-- A RESTART that passes its tests begins a SOFT start (R96). -/
theorem exec_restart {s : State} (ho : s.takesOpen 0) : exec (.restart 0) s = .next (s.renewSession 0).softStart := by
  refine (whenPowered_next _ s ho.1.1).trans ?_
  rw [takeRestart, renewed_supervisorGate ho]

end Sys2Proof.Machine

open Sys2Proof Sys2Proof.Machine

/-- Settles O45: each start is `State.beginStart`, with the levels of the inputs or the engine set beside it. -/
theorem startsBegin : Obligations.StartsBegin := by
  intro s broken begun
  refine ⟨⟨_, rfl, s.begun_beginStart .power true, rfl, rfl, rfl⟩, fun supply => ⟨?_, ?_⟩, fun ho => ?_⟩
  · have line : exec .lineStart s = .next ((s.setPins { s.pins with reset := true }).beginStart .line false) := by
      simp [exec, execLineStart, State.assertReset, supply]
    exact ⟨_, line, (s.setPins { s.pins with reset := true }).begun_beginStart .line false, rfl,
      by simp [State.beginStart]⟩
  · exact ⟨_, whenPowered_next _ s supply, s.brokenOff_breakPhase, rfl, rfl⟩
  · exact ⟨_, exec_restart ho, s.begun_of_renewSession _ 0 .soft ((s.renewSession 0).begun_beginStart .soft false), rfl⟩

end

section
/-! PROOFS. What a check does beside its verdict, and the handshake (R98, R105, R106, R112, R116). -/

namespace Sys2Proof.Machine

/-! ### The verdict -/

theorem State.verdict_starting (s : State) (a : Access) (h : s.mode = .starting) :
    s.verdict a = .deny .notReady none := by
  rw [State.verdict, if_pos h]

theorem State.verdict_noMaster (s : State) (a : Access) (h : checkMaster a.cmas = none) :
    s.verdict a = .deny .notReady none ∨ s.verdict a = .deny .noMaster none := by
  unfold State.verdict
  split
  · exact .inl rfl
  · rw [h]
    exact .inr rfl

theorem State.verdict_master (s : State) (a : Access) (m : Master) (h : s.mode ≠ .starting)
    (hm : checkMaster a.cmas = some m) : s.verdict a = s.verdictFor m a := by
  rw [State.verdict, if_neg h, hm]

/-- Every denial of a master's check is captured (R106). -/
theorem State.verdictFor_captured (s : State) (m : Master) (a : Access) (reason : DenyReason) (named : Option RecIdx)
    (h : s.verdictFor m a = .deny reason named) : reason.captured = true := by
  have by_windows : ∀ r n, s.denyByWindows m a = .deny r n → r.captured = true := by
    intro r n hr
    unfold State.denyByWindows at hr
    split at hr <;> · obtain ⟨rfl, -⟩ := Verdict.deny.inj hr; rfl
  unfold State.verdictFor at h
  split at h
  · obtain ⟨rfl, -⟩ := Verdict.deny.inj h; rfl
  · split at h
    · obtain ⟨rfl, -⟩ := Verdict.deny.inj h; rfl
    · split at h
      · cases h
      · split at h
        · cases h
        · split at h
          · obtain ⟨rfl, -⟩ := Verdict.deny.inj h; rfl
          · exact by_windows reason named h

/-- A master's check outside STARTING is not denied NOT_READY. -/
theorem State.verdictFor_reason (s : State) (m : Master) (a : Access) :
    (s.verdictFor m a).reason ≠ some .notReady := by
  cases h : s.verdictFor m a with
  | allowBand => nofun
  | allowWindow i => nofun
  | deny reason named =>
    have := s.verdictFor_captured m a reason named h
    rintro e
    obtain rfl := Option.some.inj e
    cases this

/-- A verdict that is no DENY has no reason. -/
theorem Verdict.reason_eq_none (v : Verdict) (h : ∀ reason named, v ≠ .deny reason named) : v.reason = none := by
  cases v with
  | allowBand => rfl
  | allowWindow i => rfl
  | deny reason named => exact absurd rfl (h reason named)

/-! ### The touched flag and the deny latch -/

theorem State.touch_of_not_window (s : State) (v : Verdict) (h : ∀ i, v ≠ .allowWindow i) : s.touch v = s := by
  cases v with
  | allowWindow i => exact absurd rfl (h i)
  | allowBand => rfl
  | deny reason named => rfl

/-- A notice record after a capture is handed to its deny latch (R106). -/
def Notice.afterCapture (n : Notice) (c : Capture) (mode : PartMode) : Notice := match n.latch with
  | none => Notice.refresh { n with flags := n.flags ||| Flag.denied.mask, latch := some c } mode
  | some _ => { n with more := true }

theorem State.capture_notice (s : State) (m : Master) (c : Capture) (j : Master) :
    (s.capture m c).notice j = if m = j then (s.notice m).afterCapture c s.mode else s.notice j := by
  by_cases e : m = j
  · subst e
    cases h : (s.notice m).latch <;> simp [State.capture, Notice.afterCapture, h, State.raise_notice]
  · cases h : (s.notice m).latch <;> simp [State.capture, h, State.raise_notice, State.setNotice_notice, e]

theorem State.captureDenial_of_allow (s : State) (m : Master) (a : Access) (v : Verdict) (h : v.reason = none) :
    s.captureDenial m a v = s := by
  rw [State.captureDenial, h]

theorem State.captureDenial_of_deny (s : State) (m : Master) (a : Access) (reason : DenyReason)
    (named : Option RecIdx) (h : reason.captured = true) : s.captureDenial m a (.deny reason named) =
      s.capture m ⟨a.cadr, a.cspan.toNat + 1, a.kind, reason⟩ := by
  simp [State.captureDenial, Verdict.reason, h]

/-- A denial is captured for its own master only (R106). -/
theorem State.captureDenial_notice_ne (s : State) (m : Master) (a : Access) (v : Verdict) (j : Master) (h : m ≠ j) :
    (s.captureDenial m a v).notice j = s.notice j := by
  unfold State.captureDenial
  split
  · rfl
  · split
    · rw [State.capture_notice, if_neg h]
    · rfl

/-! ### Hits -/

theorem rangeMeets_iff (base size first last : Nat) :
    rangeMeets base size first last = true ↔ meetsBytes base size first last := by simp [rangeMeets]

/-- A check is a hit on another master's watch when its kinds select the access and its range meets the span (R112). -/
theorem Watch.hitBy_iff (w : Watch) (m : Master) (a : Access) : w.hitBy m a = true ↔
    m ≠ w.owner ∧ w.kinds ≠ (if a.cwr then .reads else .writes) ∧
      meetsBytes w.base w.size a.cadr.toNat (min (a.cadr.toNat + a.cspan.toNat) 0xFFFFFF) := by
  have selects : w.kinds.selects a.kind = true ↔ w.kinds ≠ (if a.cwr then .reads else .writes) := by
    cases hk : w.kinds <;> cases hc : a.cwr <;> simp [Access.kind, accessKind, hc, WatchKinds.selects]
  rw [Watch.hitBy, Bool.and_eq_true, Bool.and_eq_true, decide_eq_true_eq, selects, rangeMeets_iff, and_assoc]
  rfl

theorem Watch.not_hitBy_owner (w : Watch) (a : Access) : w.hitBy w.owner a = false := by simp [Watch.hitBy]

theorem WatchRecord.watch_eq_some (r : WatchRecord) (w : Watch) : r.watch = some w ↔ r = .armed w := by
  cases r <;> simp [WatchRecord.watch]

/-! ### The side effects of a check -/

section
variable (s : State) (a : Access) (v : Verdict)

theorem State.applyVerdict_noMaster (h : checkMaster a.cmas = none) : s.applyVerdict a v = s := by
  rw [State.applyVerdict, h]

theorem State.applyVerdict_master {m : Master} (h : checkMaster a.cmas = some m) :
    s.applyVerdict a v = ((s.touch v).captureDenial m a v).hitWatches m a v := by
  rw [State.applyVerdict, h]

/-- A check in STARTING has no effect on the records. -/
theorem State.applyVerdict_notReady (named : Option RecIdx) : s.applyVerdict a (.deny .notReady named) = s := by
  cases h : checkMaster a.cmas with
  | none => exact s.applyVerdict_noMaster a _ h
  | some m => rw [s.applyVerdict_master a _ h]; rfl

/-- Only an ALLOW through a window touches the table (R105). -/
theorem State.applyVerdict_table (h : ∀ i, v ≠ .allowWindow i) : (s.applyVerdict a v).table = s.table := by
  cases hm : checkMaster a.cmas with
  | none => rw [s.applyVerdict_noMaster a v hm]
  | some m => rw [s.applyVerdict_master a v hm, s.touch_of_not_window v h]; simp

/-- An ALLOW through a window sets its touched flag, and touches no other record (R105). -/
theorem State.applyVerdict_record {m : Master} (hm : checkMaster a.cmas = some m) {i : RecIdx} {w : Window}
    (hw : (s.record i).window = some w) (j : RecIdx) : (s.applyVerdict a (.allowWindow i)).record j =
      if i = j then ⟨(s.record i).generation, .held { w with touched := true }⟩ else s.record j := by
  rw [s.applyVerdict_master a _ hm]
  simp [State.touch, hw, State.setWindow_record]

section
variable {m : Master} (hm : checkMaster a.cmas = some m) (hv : v.reason ≠ some .notReady)
include hm hv

/-- The sender's own notices: its watches are not hit, so the deny latch alone decides (R106, R112). -/
theorem State.applyVerdict_notice_self :
    (s.applyVerdict a v).notice m = ((s.touch v).captureDenial m a v).notice m := by
  have none_hit : (List.finRange 8).any (fun k => (((s.touch v).captureDenial m a v).watch k).watch.any fun w =>
      decide (w.owner = m) && w.hitBy m a) = false := by
    simp only [List.any_eq_false, Option.any_eq_true, Bool.and_eq_true, decide_eq_true_eq]
    rintro k - ⟨w, -, rfl, hit⟩
    rw [w.not_hitBy_owner a] at hit
    cases hit
  rw [s.applyVerdict_master a v hm, State.hitWatches_notice _ m a v hv, none_hit]
  rfl

omit hv in
/-- A denial is handed to the sender's deny latch (R106). -/
theorem State.applyVerdict_notice_denied (reason : DenyReason) (named : Option RecIdx)
    (hc : reason.captured = true) : (s.applyVerdict a (.deny reason named)).notice m =
      (s.notice m).afterCapture ⟨a.cadr, a.cspan.toNat + 1, a.kind, reason⟩ s.mode := by
  have ready : (Verdict.deny reason named).reason ≠ some .notReady := by
    rintro e
    obtain rfl := Option.some.inj e
    cases hc
  rw [s.applyVerdict_notice_self a _ hm ready, State.captureDenial_of_deny _ m a reason named hc,
    State.capture_notice, if_pos rfl]
  rfl

omit hv in
/-- An ALLOW leaves the sender's notices (R106). -/
theorem State.applyVerdict_notice_allowed (allow : v.reason = none) :
    (s.applyVerdict a v).notice m = s.notice m := by
  rw [s.applyVerdict_notice_self a v hm (by simp [allow]), State.captureDenial_of_allow _ m a v allow,
    State.touch_notice]

/-- Another master's notices: WATCH is raised when a watch of its is hit (R112). -/
theorem State.applyVerdict_notice_other {j : Master} (hj : j ≠ m) : (s.applyVerdict a v).notice j =
    if (List.finRange 8).any fun k => (s.watch k).watch.any fun w => decide (w.owner = j) && w.hitBy m a then
      (s.raise j .watch).notice j
    else s.notice j := by
  have before : ((s.touch v).captureDenial m a v).notice j = s.notice j := by
    rw [State.captureDenial_notice_ne _ m a v j hj.symm, State.touch_notice]
  rw [s.applyVerdict_master a v hm, State.hitWatches_notice _ m a v hv]
  simp only [State.captureDenial_watch, State.touch_watch]
  split
  · rw [State.raise_notice_congr s _ j .watch (by simp) (.inl before)]
  · exact before

/-- A FREE watch record stays FREE. -/
theorem State.applyVerdict_watch_free {k : WatchIdx} (hk : s.watch k = .free) :
    (s.applyVerdict a v).watch k = .free := by
  rw [s.applyVerdict_master a v hm, State.hitWatches_watch _ m a v hv, State.hitWatch_watch, if_pos rfl]
  simp [hk]

/-- An ARMED watch counts the check when it is a hit (R112). -/
theorem State.applyVerdict_watch_armed {k : WatchIdx} {w : Watch} (hk : s.watch k = .armed w) :
    (s.applyVerdict a v).watch k = .armed (if w.hitBy m a then w.afterHit m a v else w) := by
  rw [s.applyVerdict_master a v hm, State.hitWatches_watch _ m a v hv, State.hitWatch_watch, if_pos rfl]
  simp [hk]

end
end

/-! ### The handshake -/

/-- A strobe on a READY unit (R98). -/
theorem State.strobe_ready (s : State) (a : Access) (h : s.check.phase = .ready) : s.strobe a =
    ((s.setPins { s.pins with cstb := true }).applyVerdict a (s.verdict a)).setCheck
      ⟨.answering a, (s.verdict a).out⟩ := by
  simp only [State.strobe, h]

end Sys2Proof.Machine

open Sys2Proof Sys2Proof.Machine

/-- Settles O37, piece by piece from the rules of `State.applyVerdict`. -/
theorem checkEffects : Obligations.CheckEffects := by
  refine ⟨fun a s supply ready => ?_, fun cmas cadr cspan cwr a s supply answering => ⟨?_, ?_⟩,
    fun s supply ready => ?_⟩
  · have hexec : exec (.checkStrobe a.cmas a.cadr a.cspan a.cwr) s = .next (s.strobe a) :=
      whenPowered_next (·.strobe a) s supply
    rw [s.strobe_ready a ready] at hexec
    have noMaster : 6 ≤ a.cmas.toNat → checkMaster a.cmas = none := checkMaster_eq_none a.cmas
    refine ⟨_, hexec, fun i w hi hw => ?_, fun h => ?_, fun h => ?_, fun h => ?_, fun m hm running => ?_,
      by simp, by simp, by simp, by simp, by simp, by simp, by simp, by simp, by simp, by simp, by simp, by simp⟩
    · obtain ⟨m, hm⟩ : ∃ m, checkMaster a.cmas = some m := by
        cases hc : checkMaster a.cmas with
        | some m => exact ⟨m, rfl⟩
        | none => rcases s.verdict_noMaster a hc with e | e <;> rw [e] at hi <;> cases hi
      have record := (s.setPins { s.pins with cstb := true }).applyVerdict_record a hm (i := i) (w := w) hw
      rw [hi]
      exact ⟨(record i).trans (if_pos rfl), fun j hj => (record j).trans (if_neg hj.symm)⟩
    · exact State.applyVerdict_table _ a _ h
    · rw [State.applyVerdict_noMaster _ a _ (noMaster h)]
      exact ⟨rfl, rfl, rfl⟩
    · rw [s.verdict_starting a h, State.applyVerdict_notReady]
      exact ⟨rfl, rfl, rfl⟩
    · have master := checkMaster_eq_some a.cmas m hm
      have verdict := s.verdict_master a m running master
      have reason : (s.verdict a).reason ≠ some .notReady := verdict ▸ s.verdictFor_reason m a
      refine ⟨fun why named deny => ?_, fun allow => ?_, fun j hj => ?_, fun k => ⟨fun free => ?_, fun w armed => ?_⟩⟩
      · have denied := (s.setPins { s.pins with cstb := true }).applyVerdict_notice_denied a master why named
          (s.verdictFor_captured m a why named (verdict ▸ deny))
        rw [deny]
        refine ⟨fun empty => denied.trans ?_, fun full => denied.trans ?_⟩
        · simp [Notice.afterCapture, empty, Access.kind, accessKind]
        · obtain ⟨c, hc⟩ := Option.ne_none_iff_exists'.1 full
          simp [Notice.afterCapture, hc]
      · exact State.applyVerdict_notice_allowed _ a _ master (Verdict.reason_eq_none _ allow)
      · have other := State.applyVerdict_notice_other (s.setPins { s.pins with cstb := true }) a (s.verdict a) master
          reason hj
        refine ⟨fun ⟨k, w, armed, owner, hit⟩ => other.trans (if_pos ?_), fun missed => other.trans (if_neg ?_)⟩
        · simp only [List.any_eq_true, Option.any_eq_true, Bool.and_eq_true, decide_eq_true_eq]
          exact ⟨k, List.mem_finRange k, w, (WatchRecord.watch_eq_some _ w).2 armed, owner, (w.hitBy_iff m a).2 hit⟩
        · simp only [List.any_eq_true, Option.any_eq_true, Bool.and_eq_true, decide_eq_true_eq]
          rintro ⟨k, -, w, armed, owner, hit⟩
          exact missed k w ((WatchRecord.watch_eq_some _ w).1 armed) owner ((w.hitBy_iff m a).1 hit)
      · exact State.applyVerdict_watch_free _ a _ master reason free
      · have watch := State.applyVerdict_watch_armed (s.setPins { s.pins with cstb := true }) a (s.verdict a) master
          reason armed
        refine ⟨fun missed => watch.trans ?_, fun hit => watch.trans ?_⟩
        · rw [if_neg (mt (w.hitBy_iff m a).1 missed)]
        · rw [if_pos ((w.hitBy_iff m a).2 hit)]
          rfl
  · refine (whenPowered_next (·.strobe ⟨cmas, cadr, cspan, cwr⟩) s supply).trans ?_
    simp only [State.strobe, answering]
  · refine (whenPowered_next _ s supply).trans ?_
    simp only [State.releaseStrobe, answering, CheckOut.idle]
  · refine (whenPowered_next _ s supply).trans ?_
    simp only [State.releaseStrobe, ready]

end

section
/-! PROOFS. What all requests share (R24, R25, R82, R154, R161): the tests ahead of a request's own, and that a refusal
leaves the state as it was. -/

namespace Sys2Proof.Machine

/-! ### A refusal leaves the state (R25) -/

/-- An answer other than OK, QUEUED and GRANTED leaves this state. -/
def Answer.RefusalKeeps (s : State) (a : Answer) : Prop :=
  a.status ≠ .ok → a.status ≠ .queued → a.status ≠ .granted → a.state = s

namespace Answer.RefusalKeeps

variable {s : State}

theorem of_state {a : Answer} (h : a.state = s) : a.RefusalKeeps s := fun _ _ _ => h

theorem refuse (st : Status) : (s.refuse st).RefusalKeeps s := of_state rfl

theorem ok (u : State) (results : List Word) : (u.ok results).RefusalKeeps s := fun h => absurd rfl h

theorem queued (u : State) (results : List Word) : (Answer.mk u .queued results).RefusalKeeps s :=
  fun _ h => absurd rfl h

theorem gated {gate : Option Status} {rest : Answer} (h : rest.RefusalKeeps s) :
    (s.gated gate rest).RefusalKeeps s := by
  cases gate with
  | none => exact h
  | some st => exact refuse st

theorem withHandle {h : Word} {f : RecIdx → Window → Answer} (hf : ∀ i w, (f i w).RefusalKeeps s) :
    (s.withHandle h f).RefusalKeeps s := by
  unfold State.withHandle
  split
  · exact refuse _
  · exact of_state rfl
  · exact hf _ _

theorem withWatch {m : Master} {id : Word} {f : WatchIdx → Watch → Answer} (hf : ∀ k w, (f k w).RefusalKeeps s) :
    (s.withWatch m id f).RefusalKeeps s := by
  unfold State.withWatch
  split
  · exact refuse _
  · split
    · exact refuse _
    · split
      · exact refuse _
      · exact hf _ _

end Answer.RefusalKeeps

section
variable {s : State}

theorem openAnswer_refusalKeeps (m : Master) (period : Nat) : (openAnswer m period s).RefusalKeeps s := by
  unfold openAnswer
  split
  · exact .refuse _
  · split
    · exact .refuse _
    · exact .ok _ _
    · exact .ok _ _

theorem closeAnswer_refusalKeeps (m : Master) : (closeAnswer m s).RefusalKeeps s := by
  unfold closeAnswer
  split <;> exact .ok _ _

theorem claimAnswer_refusalKeeps (m : Master) (c : ClaimOperands) : (claimAnswer m c s).RefusalKeeps s := by
  refine .gated (.gated ?_)
  split
  · exact .ok _ _
  · unfold State.claimWaits
    split
    · split
      · exact .queued _ _
      · exact .refuse _
    · split
      · exact .of_state rfl
      · exact .refuse _

theorem renewAnswer_refusalKeeps (m : Master) (h : Word) (ticks : Nat) : (renewAnswer m h ticks s).RefusalKeeps s := by
  unfold renewAnswer
  split
  · exact .refuse _
  · refine .withHandle fun i w => ?_
    unfold renewWindow
    split
    · exact .refuse _
    · split
      · exact .refuse _
      · split
        · exact .ok _ _
        · exact .refuse _
        · exact .refuse _

theorem releaseWindow_refusalKeeps (m : Master) (i : RecIdx) (w : Window) : (releaseWindow m s i w).RefusalKeeps s := by
  unfold releaseWindow
  split
  · exact .refuse _
  · split
    · exact .refuse _
    · exact .ok _ _

theorem downgradeWindow_refusalKeeps (m : Master) (i : RecIdx) (w : Window) :
    (downgradeWindow m s i w).RefusalKeeps s := by
  unfold downgradeWindow
  split
  · exact .refuse _
  · split <;> exact .ok _ _

theorem upgradeWindow_refusalKeeps (m : Master) (i : RecIdx) (w : Window) : (upgradeWindow m s i w).RefusalKeeps s := by
  unfold upgradeWindow
  split
  · exact .refuse _
  · split
    · exact .refuse _
    · split
      · exact .ok _ _
      · split
        · exact .of_state rfl
        · exact .ok _ _

theorem listAnswer_refusalKeeps (m : Master) (start target : Word) : (listAnswer m start target s).RefusalKeeps s := by
  unfold listAnswer
  split
  · exact .refuse _
  · split
    · exact .refuse _
    · split
      · exact .refuse _
      · exact .ok _ _

theorem cancelAnswer_refusalKeeps (m : Master) (t : Word) : (cancelAnswer m t s).RefusalKeeps s := by
  unfold cancelAnswer
  split
  · exact .ok _ _
  · exact .of_state rfl
  · exact .of_state rfl
  · exact .of_state rfl

theorem ticketAnswer_refusalKeeps (m : Master) (t : Word) : (ticketAnswer m t s).RefusalKeeps s := by
  unfold ticketAnswer
  split <;> exact .of_state rfl

theorem standAnswer_refusalKeeps (m : Master) (i : RecIdx) (w : Window) : (standAnswer m s i w).RefusalKeeps s := by
  unfold standAnswer
  split
  · exact .refuse _
  · split
    · exact .refuse _
    · split
      · exact .refuse _
      · split
        · exact .refuse _
        · split
          · exact .refuse _
          · exact .ok _ _

theorem unstandAnswer_refusalKeeps (m : Master) (i : RecIdx) (w : Window) : (unstandAnswer m s i w).RefusalKeeps s := by
  unfold unstandAnswer
  split
  · exact .refuse _
  · split
    · exact .refuse _
    · exact .refuse _
    · split
      · exact .refuse _
      · exact .ok _ _

theorem watchSetAnswer_refusalKeeps (m : Master) (base size : Nat) (kinds : WatchKinds) :
    (watchSetAnswer m base size kinds s).RefusalKeeps s := by
  unfold watchSetAnswer
  split
  · exact .refuse _
  · split
    · exact .refuse _
    · split
      · exact .refuse _
      · exact .ok _ _

theorem quotaAnswer_refusalKeeps (target : Word) (quota allowance : Nat) :
    (quotaAnswer target quota allowance s).RefusalKeeps s := by
  unfold quotaAnswer
  split
  · exact .refuse _
  · split
    · exact .refuse _
    · split
      · exact .refuse _
      · exact .ok _ _

theorem revokeAnswer_refusalKeeps (h : Word) (grace : Nat) : (revokeAnswer h grace s).RefusalKeeps s := by
  unfold revokeAnswer
  split
  · exact .refuse _
  · refine .withHandle fun i w => ?_
    unfold revokeWindow
    split <;> exact .ok _ _

theorem evictAnswer_refusalKeeps (target : Word) : (evictAnswer target s).RefusalKeeps s := by
  unfold evictAnswer
  split
  · exact .refuse _
  · unfold evictTarget
    split <;> exact .ok _ _

theorem bandAnswer_refusalKeeps (value grace : Nat) : (bandAnswer value grace s).RefusalKeeps s := by
  unfold bandAnswer
  split
  · exact .refuse _
  · unfold bandValueAnswer
    split
    · exact .ok _ _
    · split
      · exact .ok _ _
      · split
        · exact .ok _ _
        · exact .refuse _

theorem purgeAnswer_refusalKeeps (slot : Word) : (purgeAnswer slot s).RefusalKeeps s := by
  unfold purgeAnswer
  split
  · exact .refuse _
  · split
    · exact .ok _ _
    · exact .refuse _

end

/-! ### The tests ahead of a request's own (R24, R68, R82, R118, R154) -/

/-- The part-mode, privilege and session tests a request makes ahead of its own. -/
def requestGate (i : Instr) (m : Master) (s : State) : Option Status :=
  if i.inMaintenance then s.readyGate
  else if i.isSupervisor then s.supervisorGate m
  else if i.testsSession then s.openGate m
  else s.partGate m

@[simp] theorem requestGate_renewSession (i : Instr) (m : Master) (s : State) :
    requestGate i m (s.renewSession m) = requestGate i m s := by simp [requestGate]

theorem State.openGate_of_partGate (s : State) (m : Master) (st : Status) (h : s.partGate m = some st) :
    s.openGate m = some st := by
  rw [State.openGate, h]

theorem State.supervisorGate_of_partGate (s : State) (m : Master) (st : Status) (h : s.partGate m = some st) :
    s.supervisorGate m = some st := by
  rw [State.supervisorGate, h]

/-- The part-mode tests come first for every request that makes them (R24, R82). -/
theorem requestGate_of_partGate (i : Instr) (m : Master) (s : State) (st : Status) (hi : i.inMaintenance = false)
    (h : s.partGate m = some st) : requestGate i m s = some st := by
  rw [requestGate, if_neg (by simp [hi])]
  split
  · exact s.supervisorGate_of_partGate m st h
  · split
    · exact s.openGate_of_partGate m st h
    · exact h

/-- In STARTING every request is NOT_READY (R24, R148). -/
theorem requestGate_starting (i : Instr) (m : Master) (s : State) (h : s.mode = .starting) :
    requestGate i m s = some .notReady := by
  cases hi : i.inMaintenance with
  | true => simp only [requestGate, hi, if_true, State.readyGate, h]
  | false => exact requestGate_of_partGate i m s _ hi (by simp only [State.partGate, h])

/-- In MAINTENANCE masters 1 to 5 are kept out (R154). -/
theorem requestGate_maintenance (i : Instr) (m : Master) (s : State) (hi : i.inMaintenance = false)
    (h : s.mode = .maintenance) (hm : m ≠ 0) : requestGate i m s = some .maintenance :=
  requestGate_of_partGate i m s _ hi (by simp only [State.partGate, h, if_neg hm])

/-- The requests answered in both modes pass once the part has started (R118, R154). -/
theorem requestGate_inMaintenance (i : Instr) (m : Master) (s : State) (hi : i.inMaintenance = true)
    (h : s.mode ≠ .starting) : requestGate i m s = none := by
  rw [requestGate, if_pos hi, s.readyGate_none h]

/-! ### Every request is served -/

/-- A request is served on the renewed session: the format tests, the tests of `requestGate`, then its own answer. -/
def ServedBy (i : Instr) (s : State) (m : Master) (code : Nat) (rest : State → Answer) : Prop :=
  takeRequest i s =
    serve m (BitVec.ofNat 8 code) i.wellFormed (fun u => u.gated (requestGate i m u) (rest u)) s

/-- Every request is served, with an own answer that keeps the state in a refusal, and is OK for those of both modes;
but for a RESTART that passes its tests, which begins a SOFT start (R25, R96, R118, R161). -/
theorem takeRequest_cases (i : Instr) (s : State) (m : Master) (code : Nat) (ops : List Word)
    (hp : requestParts i = some (m, code, ops)) :
    (∃ rest, ServedBy i s m code rest ∧ (∀ u, (rest u).RefusalKeeps u) ∧
      (i.inMaintenance = true → ∀ u, (rest u).status = .ok)) ∨
    (i = .restart m ∧ takeRequest i s = (s.renewSession m).softStart) := by
  cases i with cases hp
  | restart k =>
    cases hg : (s.renewSession m).supervisorGate m with
    | none => exact .inr ⟨rfl, by simp only [takeRequest, takeRestart, hg]⟩
    | some st =>
      exact .inl ⟨fun u => u.ok [], by simp only [ServedBy, takeRequest, takeRestart, hg]; rfl, fun _ => .ok _ _,
        nofun⟩
  | nop k => exact .inl ⟨fun u => u.ok [], rfl, fun _ => .ok _ _, fun _ _ => rfl⟩
  | status k => exact .inl ⟨fun u => u.ok u.statusWords, rfl, fun _ => .ok _ _, fun _ _ => rfl⟩
  | noticeRead k => exact .inl ⟨fun u => u.ok (u.notice m).words, rfl, fun _ => .ok _ _, fun _ _ => rfl⟩
  | noticeAck k mask => exact .inl ⟨noticeAckAnswer m _, rfl, fun _ => .ok _ _, fun _ _ => rfl⟩
  | noticeEnable k mask line => exact .inl ⟨noticeEnableAnswer m _ _, rfl, fun _ => .ok _ _, fun _ _ => rfl⟩
  | openSession k period => exact .inl ⟨_, rfl, fun _ => openAnswer_refusalKeeps m _, nofun⟩
  | close k => exact .inl ⟨_, rfl, fun _ => closeAnswer_refusalKeeps m, nofun⟩
  | keepalive k => exact .inl ⟨fun u => u.ok [], rfl, fun _ => .ok _ _, nofun⟩
  | claim k base size options lease limit => exact .inl ⟨_, rfl, fun _ => claimAnswer_refusalKeeps m _, nofun⟩
  | renew k h ticks => exact .inl ⟨_, rfl, fun _ => renewAnswer_refusalKeeps m h _, nofun⟩
  | release k h => exact .inl ⟨fun u => u.withHandle h (releaseWindow m u), rfl,
      fun _ => .withHandle (releaseWindow_refusalKeeps m), nofun⟩
  | downgrade k h => exact .inl ⟨fun u => u.withHandle h (downgradeWindow m u), rfl,
      fun _ => .withHandle (downgradeWindow_refusalKeeps m), nofun⟩
  | upgrade k h => exact .inl ⟨fun u => u.withHandle h (upgradeWindow m u), rfl,
      fun _ => .withHandle (upgradeWindow_refusalKeeps m), nofun⟩
  | query k h =>
    exact .inl ⟨fun u => u.withHandle h (queryWindow u), rfl, fun _ => .withHandle fun _ _ => .ok _ _, nofun⟩
  | list k start target => exact .inl ⟨_, rfl, fun _ => listAnswer_refusalKeeps m _ _, nofun⟩
  | cancel k t => exact .inl ⟨_, rfl, fun _ => cancelAnswer_refusalKeeps m t, nofun⟩
  | ticket k t => exact .inl ⟨_, rfl, fun _ => ticketAnswer_refusalKeeps m t, nofun⟩
  | stand k h => exact .inl ⟨fun u => u.withHandle h (standAnswer m u), rfl,
      fun _ => .withHandle (standAnswer_refusalKeeps m), nofun⟩
  | unstand k h => exact .inl ⟨fun u => u.withHandle h (unstandAnswer m u), rfl,
      fun _ => .withHandle (unstandAnswer_refusalKeeps m), nofun⟩
  | watchSet k base size kinds => exact .inl ⟨_, rfl, fun _ => watchSetAnswer_refusalKeeps m _ _ _, nofun⟩
  | watchClear k id => exact .inl ⟨fun u => u.withWatch m id fun j w => (u.setWatch j .free).ok [word w.hits], rfl,
      fun _ => .withWatch fun _ _ => .ok _ _, nofun⟩
  | watchRead k id =>
    exact .inl ⟨fun u => u.withWatch m id fun j w => (u.setWatch j (.armed { w with hits := 0 })).ok w.words,
      rfl, fun _ => .withWatch fun _ _ => .ok _ _, nofun⟩
  | quota k target quota allowance => exact .inl ⟨_, rfl, fun _ => quotaAnswer_refusalKeeps _ _ _, nofun⟩
  | revoke k h grace => exact .inl ⟨_, rfl, fun _ => revokeAnswer_refusalKeeps h _, nofun⟩
  | evict k target => exact .inl ⟨_, rfl, fun _ => evictAnswer_refusalKeeps _, nofun⟩
  | band k value grace => exact .inl ⟨_, rfl, fun _ => bandAnswer_refusalKeeps _ _, nofun⟩
  | purge k slot => exact .inl ⟨_, rfl, fun _ => purgeAnswer_refusalKeeps _, nofun⟩

section
variable {i : Instr} {s : State} {m : Master} {code : Nat} {ops : List Word}

/-- A powered part takes the request at once. -/
theorem exec_eq_takeRequest (hp : requestParts i = some (m, code, ops)) (supply : s.pins.supply = true) :
    exec i s = .next (takeRequest i s) := by
  rw [exec_request i s (by simp [hp]), whenPowered_next _ s supply]

/-- What a served request leaves, reply included: past its gate or not, a refusal keeps the renewed state (R25). -/
theorem ServedBy.reply_refusalKeeps {rest : State → Answer} (h : ServedBy i s m code rest)
    (keeps : ∀ u, (rest u).RefusalKeeps u) : ∃ a : Answer,
    takeRequest i s = a.reply m (BitVec.ofNat 8 code) ∧ a.RefusalKeeps (s.renewSession m) := by
  refine ⟨_, h, ?_⟩
  dsimp only
  split
  · exact .gated (keeps _)
  · exact .refuse _

/-- A well-formed request is answered by its gate, or past it by its own answer. -/
theorem ServedBy.wellFormed {rest : State → Answer} (h : ServedBy i s m code rest) (hw : i.wellFormed = true) :
    takeRequest i s = ((s.renewSession m).gated (requestGate i m s) (rest (s.renewSession m))).reply m
      (BitVec.ofNat 8 code) := by
  rw [h, hw, serve_reply, requestGate_renewSession]

/-- A well-formed request that fails a test of its gate is refused with it. -/
theorem refusedWith_of_requestGate (hp : requestParts i = some (m, code, ops)) (supply : s.pins.supply = true)
    (hw : i.wellFormed = true) {st : Status} (hg : requestGate i m s = some st) :
    refusedWith i s m (BitVec.ofNat 8 code) st := by
  rw [refusedWith, answered, exec_eq_takeRequest hp supply]
  obtain ⟨rest, served, -, -⟩ | ⟨rfl, -⟩ := takeRequest_cases i s m code ops hp
  · rw [served.wellFormed hw, hg]
    rfl
  · cases hp
    have gate : (s.renewSession m).supervisorGate m = some st := by
      rw [State.renewSession_supervisorGate]; exact hg
    simp only [takeRequest, takeRestart, gate]
    rw [serve_reply, gate]
    rfl

end

theorem State.softStart_reply (s : State) (m : Master) : (s.softStart.link m).reply = none := by
  simp [State.softStart, State.beginRead, Link.atStart]

end Sys2Proof.Machine

open Sys2Proof Sys2Proof.Machine

/-- Settles O4: every request is served by an own answer that keeps the state in a refusal; a RESTART that passes
leaves no reply. -/
theorem refusalChangesNothing : Obligations.RefusalChangesNothing := by
  intro i s m code ops hp supply
  refine ⟨_, exec_eq_takeRequest hp supply, ?_⟩
  obtain ⟨rest, served, keeps, -⟩ | ⟨restart, started⟩ := takeRequest_cases i s m code ops hp
  · obtain ⟨a, left, refusal⟩ := served.reply_refusalKeeps keeps
    have slot : ((takeRequest i s).link m).reply = some ⟨a.status, BitVec.ofNat 8 code, a.results⟩ := by
      rw [left, Answer.reply, State.placeReply_reply]
    refine ⟨fun _ => by simp [slot], fun r hr => ?_⟩
    obtain rfl := Option.some.inj (slot.symm.trans hr)
    refine ⟨rfl, fun ok queued granted => ?_⟩
    rw [left, Answer.reply, refusal ok queued granted]
  · have empty : ((takeRequest i s).link m).reply = none := by rw [started, State.softStart_reply]
    exact ⟨fun other => absurd restart other, fun r hr => by rw [empty] at hr; cases hr⟩

/-- Settles O5, from what the tests ahead of a request's own find in each part mode. -/
theorem partModeTests : Obligations.PartModeTests := by
  intro i s m code ops hp supply hw
  refine ⟨fun starting => ?_, fun maintenance hm hi => ?_, fun running hi => ?_⟩
  · exact refusedWith_of_requestGate hp supply hw (requestGate_starting i m s starting)
  · exact refusedWith_of_requestGate hp supply hw (requestGate_maintenance i m s hi maintenance hm)
  · obtain ⟨rest, served, -, ok⟩ | ⟨rfl, -⟩ := takeRequest_cases i s m code ops hp
    · refine ⟨(rest (s.renewSession m)).state, (rest (s.renewSession m)).results, ?_⟩
      rw [answered, exec_eq_takeRequest hp supply, served.wellFormed hw, requestGate_inMaintenance i m s hi running,
        State.gated_none, Answer.reply, ok hi]
    · cases hi

end

section
/-! PROOFS. Claims that are refused (R26 to R28, R30) and claims that are queued (R31, R48 to R50). -/

namespace Sys2Proof.Machine

/-! ### The tests of a claim, in their order -/

section
variable (s : State) (m : Master) (c : ClaimOperands)

theorem ClaimOperands.rangeFault_badRange (h : c.size = 0 ∨ 16384 < c.base + c.size) :
    c.rangeFault = some .badRange := if_pos h

theorem ClaimOperands.rangeFault_badOperand (size : 1 ≤ c.size) (last : c.base + c.size ≤ 16384)
    (h : 60000 < c.lease ∨ (c.wait = true ∧ 60000 < c.limit)) : c.rangeFault = some .badOperand := by
  have range : ¬ (c.size = 0 ∨ Config.granules < c.base + c.size) := by
    rw [Config.granules]
    omega
  rw [ClaimOperands.rangeFault, if_neg range, Config.maxTicks, if_pos h]

theorem State.lackOfRoom_limit (n : Nat) (h : 24 ≤ (s.tally m).windows) : s.lackOfRoom m n = some .limit := if_pos h

theorem State.lackOfRoom_quota (n : Nat) (windows : (s.tally m).windows < 24)
    (h : (s.session m).quota < (s.tally m).usage + n) : s.lackOfRoom m n = some .quota := by
  rw [State.lackOfRoom, Config.maxWindows, if_neg (Nat.not_le.2 windows), if_pos h]

theorem State.claimFault_reserved (hm : m ≠ 0) (h : c.base < 64 * s.band.effective) :
    s.claimFault m c = some .reserved := if_pos ⟨hm, decide_eq_true h⟩

/-- Outside the effective claim band the bounds decide (R27, R28). -/
theorem State.claimFault_outside (band : m ≠ 0 → 64 * s.band.effective ≤ c.base) {cause : FailCause}
    (h : s.lackOfRoom m c.size = some cause) :
    s.claimFault m c = if cause = .limit then some .limit else some .quota := by
  have outside : ¬ (m ≠ 0 ∧ bandCovers s.band.effective c.base = true) := by
    rintro ⟨hm, covers⟩
    exact absurd (of_decide_eq_true covers) (Nat.not_lt.2 (band hm))
  rw [State.claimFault, if_neg outside, h]
  cases cause <;> rfl

theorem State.renewSession_claimFault : (s.renewSession m).claimFault m c = s.claimFault m c := by
  simp [State.claimFault, State.lackOfRoom]

theorem State.renewSession_claimGrant (r : Region) : (s.renewSession m).claimGrant r = s.claimGrant r := by
  simp [State.claimGrant]

/-- A claim cannot be granted at once when something conflicts or no record is FREE (R29). -/
theorem State.claimGrant_eq_none (h : ¬ s.claimClear c ∨ s.tableFull) : s.claimGrant c.region = none := by
  rw [Option.eq_none_iff_forall_ne_some]
  intro i hi
  obtain ⟨clear, free, -⟩ := (s.claimGrant_eq_some c i).1 hi
  rcases h with h | full
  · exact h clear
  · exact full i free

/-- The blocker of a region is the lowest record whose window conflicts with it (R29, R30). -/
theorem State.blocker_eq_some (r : Region) (i : RecIdx) :
    s.blocker r = some i ↔ s.isLowest (fun _ w => r.conflicts w.region = true) i := s.lowest_eq_some _ i

theorem State.waiterConflicts_iff (r : Region) :
    s.waiterConflicts r = true ↔ ∃ e ∈ s.queue, r.conflicts e.region = true := by
  simp [State.waiterConflicts]

end

section
variable {s : State} {m : Master} {c : ClaimOperands}

/-- Under NOWAIT a claim is refused with what stands in its way (R30). -/
theorem State.claimWaits_conflict (nowait : c.wait = false)
    (h : (s.blocker c.region).isSome = true ∨ s.waiterConflicts c.region = true) :
    s.claimWaits m c = ⟨s, .conflict, [blockerIndex (s.blocker c.region)]⟩ := by
  rw [State.claimWaits, if_neg (by simp [nowait]), if_pos h]

theorem State.claimWaits_tableFull (nowait : c.wait = false) (clear : s.claimClear c) :
    s.claimWaits m c = s.refuse .tableFull := by
  obtain ⟨windows, waiters⟩ := clear
  have blocker : s.blocker c.region = none := (s.blocker_eq_none _).2 windows
  have none_waits : s.waiterConflicts c.region = false := by simpa [State.waiterConflicts] using waiters
  rw [State.claimWaits, if_neg (by simp [nowait]), if_neg (by simp [blocker, none_waits])]

/-! ### What a CLAIM is answered -/

theorem answered_claim (hc : c.carried) (ho : s.takesOpen m) {u : State} {st : Status} {results : List Word}
    (h : claimAnswer m c (s.renewSession m) = ⟨u, st, results⟩) :
    answered (c.command m) s m 0x10 u st results := by
  rw [answered, c.exec_command m s hc ho, h]

/-- The value tests come first (R26). -/
theorem refusedWith_of_rangeFault (hc : c.carried) (ho : s.takesOpen m) {st : Status} (h : c.rangeFault = some st) :
    refusedWith (c.command m) s m 0x10 st :=
  answered_claim hc ho (by rw [claimAnswer, h]; rfl)

/-- The band test and the bound tests come next (R27, R28). -/
theorem refusedWith_of_claimFault (hc : c.carried) (ho : s.takesOpen m) (range : c.inRange) {st : Status}
    (h : s.claimFault m c = some st) : refusedWith (c.command m) s m 0x10 st := by
  refine answered_claim hc ho ?_
  rw [claimAnswer, c.rangeFault_eq_none.2 range, State.renewSession_claimFault, h]
  rfl

/-- A claim that passes its tests and cannot be granted at once waits or is refused (R30, R31). -/
theorem claimAnswer_renewed (range : c.inRange) (fits : s.claimFits m c) (blocked : ¬ s.claimClear c ∨ s.tableFull) :
    claimAnswer m c (s.renewSession m) = (s.renewSession m).claimWaits m c := by
  rw [claimAnswer, c.rangeFault_eq_none.2 range, State.renewSession_claimFault, (s.claimFault_eq_none m c).2 fits,
    State.renewSession_claimGrant, s.claimGrant_eq_none c blocked]
  rfl

/-- CONFLICT names the lowest blocking record, or 64 (R30). -/
theorem answered_conflict (hc : c.carried) (ho : s.takesOpen m) (range : c.inRange) (fits : s.claimFits m c)
    (nowait : c.wait = false) (blocked : ¬ s.claimClear c)
    (h : (s.blocker c.region).isSome = true ∨ s.waiterConflicts c.region = true) :
    answered (c.command m) s m 0x10 (s.renewSession m) .conflict [blockerIndex (s.blocker c.region)] := by
  refine answered_claim hc ho ?_
  rw [claimAnswer_renewed range fits (.inl blocked), State.claimWaits_conflict nowait (by simpa using h),
    State.renewSession_blocker]

end

/-! ### The ticket counter (R49) -/

theorem succTicket_toNat (t : Word) : (succTicket t).toNat = t.toNat % 65535 + 1 := by
  unfold succTicket
  split
  · next h => rw [h]; rfl
  · next h => bv_omega

/-- The values after a ticket run through 1 to 65535 and round again. -/
theorem succTicket_iterate_toNat (t : Word) (n : Nat) :
    (succTicket^[n + 1] t).toNat = (t.toNat + n) % 65535 + 1 := by
  induction n with
  | zero => exact succTicket_toNat t
  | succ n ih =>
    rw [Function.iterate_succ_apply', succTicket_toNat, ih]
    omega

/-- A value in use is answered only after every one of the values before it was passed over. -/
theorem nextTicket_mem (used : List Word) (fuel : Nat) (t : Word) (h : nextTicket used fuel t ∈ used) :
    ∀ k ≤ fuel, succTicket^[k + 1] t ∈ used := by
  induction fuel generalizing t with
  | zero =>
    intro k hk
    obtain rfl := Nat.le_zero.1 hk
    exact h
  | succ fuel ih =>
    unfold nextTicket at h
    split at h
    · next passed =>
      intro k hk
      cases k with
      | zero => exact passed
      | succ k => exact ih (succTicket t) h k (Nat.le_of_succ_le_succ hk)
    · next free => exact absurd h free

/-- With one step for each ticket in use the counter finds a value that is not: the values it looks at differ, and one
more of them than there are tickets cannot all be in use. -/
theorem nextTicket_notMem (used : List Word) (t : Word) (few : used.length < 65535) :
    nextTicket used used.length t ∉ used := by
  intro h
  have distinct : ((List.range (used.length + 1)).map fun k => succTicket^[k + 1] t).Nodup := by
    refine List.Nodup.map_on (fun i hi j hj e => ?_) List.nodup_range
    have values := congrArg BitVec.toNat e
    rw [succTicket_iterate_toNat, succTicket_iterate_toNat] at values
    rw [List.mem_range] at hi hj
    omega
  have inUse : ((List.range (used.length + 1)).map fun k => succTicket^[k + 1] t) ⊆ used := by
    intro x hx
    obtain ⟨k, hk, rfl⟩ := List.mem_map.1 hx
    exact nextTicket_mem used _ t h k (Nat.le_of_lt_succ (List.mem_range.1 hk))
  have := (List.subperm_of_subset distinct inUse).length_le
  simp at this

theorem nextTicket_ne_zero (used : List Word) (fuel : Nat) (t : Word) : nextTicket used fuel t ≠ 0 := by
  obtain ⟨n, hn, -⟩ := nextTicket_spec used fuel t
  have value := (congrArg BitVec.toNat hn).trans (succTicket_iterate_toNat t n)
  intro zero
  rw [zero] at value
  exact absurd value (Nat.succ_ne_zero _).symm

/-! ### A claim that is queued -/

theorem State.length_ticketsOf (s : State) (m : Master) :
    (s.ticketsOf m).length = s.queue.countP fun e => decide (e.master = m) := by
  simp [State.ticketsOf, List.countP_eq_length_filter]

theorem State.mem_ticketsOf (s : State) (m : Master) (t : Word) :
    t ∈ s.ticketsOf m ↔ ∃ e ∈ s.queue, e.master = m ∧ e.ticket = t := by
  simp [State.ticketsOf, and_assoc]

/-- An entry is appended, and its master's counter goes on to the first value after it that is not in use: not 0, and no
ticket of the queue as it then is (R31, R49, R50). -/
theorem State.enqueue_spec (s : State) (e : Waiter)
    (own : (s.queue.countP fun x => decide (x.master = e.master)) < 4) :
    ∃ next, s.enqueue e = (s.setQueue (s.queue ++ [e])).setSession e.master
        { s.session e.master with ticketCounter := next } ∧
      next ≠ 0 ∧ (∀ x ∈ s.queue ++ [e], x.master = e.master → x.ticket ≠ next) ∧
      ∃ n, next = succTicket^[n + 1] (s.session e.master).ticketCounter ∧
        ∀ k < n, ∃ x ∈ s.queue ++ [e], x.master = e.master ∧
          x.ticket = succTicket^[k + 1] (s.session e.master).ticketCounter := by
  let grown := s.setQueue (s.queue ++ [e])
  have few : (grown.ticketsOf e.master).length < 65535 := by
    rw [State.length_ticketsOf, State.setQueue_queue, List.countP_append]
    simp
    omega
  obtain ⟨n, first, passed⟩ := nextTicket_spec (grown.ticketsOf e.master) (grown.ticketsOf e.master).length
    (s.session e.master).ticketCounter
  refine ⟨_, rfl, nextTicket_ne_zero _ _ _, fun x hx owner used => ?_, n, first, fun k hk => ?_⟩
  · exact nextTicket_notMem _ _ few ((grown.mem_ticketsOf _ _).2 ⟨x, hx, owner, used⟩)
  · exact (grown.mem_ticketsOf _ _).1 (passed k hk)

section
variable {s : State} {m : Master} {c : ClaimOperands}

theorem State.claimWaits_queueFull (wait : c.wait = true)
    (full : 16 ≤ s.queue.length ∨ 4 ≤ s.queue.countP fun e => decide (e.master = m)) :
    s.claimWaits m c = s.refuse .queueFull := by
  rw [State.claimWaits, if_pos wait, s.length_ticketsOf, Config.maxWaiters, Config.maxWaitersPerMaster,
    if_neg (by omega)]

theorem State.claimWaits_queued (wait : c.wait = true) (room : s.queue.length < 16)
    (own : (s.queue.countP fun e => decide (e.master = m)) < 4) :
    s.claimWaits m c = ⟨s.enqueue (s.claimWaiter m c), .queued, [(s.session m).ticketCounter]⟩ := by
  rw [State.claimWaits, if_pos wait, s.length_ticketsOf, Config.maxWaiters, Config.maxWaitersPerMaster,
    if_pos ⟨room, own⟩]

end

end Sys2Proof.Machine

open Sys2Proof Sys2Proof.Machine

/-- Settles O17: each clause's hypotheses are the tests of `claimAnswer` up to the one that fails. -/
theorem claimRefused : Obligations.ClaimRefused := by
  intro c m s hc ho refused
  refine ⟨fun h => ?_, fun size last h => ?_, fun range hm h => ?_, fun range band h => ?_,
    fun range band windows h => ?_, fun range fits nowait => ⟨fun i lowest => ?_, fun none_blocks waits => ?_,
      fun clear full => ?_⟩⟩
  · exact refusedWith_of_rangeFault hc ho (c.rangeFault_badRange h)
  · exact refusedWith_of_rangeFault hc ho (c.rangeFault_badOperand size last h)
  · exact refusedWith_of_claimFault hc ho range (s.claimFault_reserved m c hm h)
  · exact refusedWith_of_claimFault hc ho range (s.claimFault_outside m c band (s.lackOfRoom_limit m _ h))
  · exact refusedWith_of_claimFault hc ho range (s.claimFault_outside m c band (s.lackOfRoom_quota m _ windows h))
  · have blocker := (s.blocker_eq_some c.region i).2 lowest
    obtain ⟨⟨w, hw, conflicts⟩, -⟩ := lowest
    have answer := answered_conflict hc ho range fits nowait (fun clear => clear.1 i w hw conflicts)
      (.inl (by rw [blocker]; rfl))
    rw [blocker] at answer
    exact answer
  · have answer := answered_conflict hc ho range fits nowait
      (fun clear => by obtain ⟨e, he, conflicts⟩ := waits; simp [clear.2 e he] at conflicts)
      (.inr ((s.waiterConflicts_iff _).2 waits))
    rw [(s.blocker_eq_none _).2 none_blocks] at answer
    exact answer
  · refine answered_claim hc ho ?_
    rw [claimAnswer_renewed range fits (.inr full),
      State.claimWaits_tableFull nowait (by simpa [State.claimClear, State.noneInForce] using clear)]
    rfl

/-- Settles O18: `State.enqueue` appends the entry, and `nextTicket` has one step for each ticket of the sender. -/
theorem claimQueued : Obligations.ClaimQueued := by
  intro c m s hc ho range fits wait blocked ticket
  have waits := claimAnswer_renewed range fits blocked
  refine ⟨fun full => answered_claim hc ho ?_, fun room own => ?_⟩
  · rw [waits, State.claimWaits_queueFull wait (by simpa using full)]
    rfl
  · have queued := waits.trans (State.claimWaits_queued wait (by simpa using room) (by simpa using own))
    have entry : (s.renewSession m).claimWaiter m c = ⟨m, ticket, c.base, c.size, c.mode, leaseLength c.lease,
        if c.limit = 0 then none else some (s.after c.limit)⟩ := by
      simp [State.claimWaiter, ClaimOperands.length, leaseLength, ticket]
    obtain ⟨next, left, nonzero, fresh, first⟩ :=
      (s.renewSession m).enqueue_spec ((s.renewSession m).claimWaiter m c) (by simpa [State.claimWaiter] using own)
    rw [entry] at queued left fresh first
    simp only [State.renewSession_queue, State.renewSession_ticketCounter] at queued left fresh first
    exact ⟨_, next, answered_claim hc ho queued, left, nonzero, by rw [left]; exact fresh, by rw [left]; exact first⟩

end

section
/-! PROOFS. RENEW, RELEASE, DOWNGRADE and UPGRADE of the window a handle names (R33 to R41), LIST (R45, R46), and the
marks a mode change and a revocation leave on a slot (R39, R89). -/

namespace Sys2Proof.Machine

/-! ### What the window a handle names is answered with -/

section
variable {s : State} {m : Master} {h : Word} {w : Window}

/-- A request that goes on with its handle is answered by its tests of the window named, on the renewed session. -/
theorem answered_of_names {i : Instr} {code : Byte} {f : RecIdx → Window → Answer} {u : State} {st : Status}
    {results : List Word} (hexec : exec i s = .next (((s.renewSession m).withHandle h f).reply m code))
    (hn : s.names h w) (hf : f (handleIndex h) w = ⟨u, st, results⟩) : answered i s m code u st results := by
  rw [answered, hexec, State.withHandle_held _ _ _ w ((s.renewSession_names m h w).2 hn), hf]
  rfl

theorem exec_release (ho : s.takesOpen m) (hf : handleFormatOk h = true) : exec (.release m h) s =
    .next (((s.renewSession m).withHandle h (releaseWindow m (s.renewSession m))).reply m 0x12) :=
  whenPowered_serve_handle 0x12 (releaseWindow m) ho hf

theorem exec_downgrade (ho : s.takesOpen m) (hf : handleFormatOk h = true) : exec (.downgrade m h) s =
    .next (((s.renewSession m).withHandle h (downgradeWindow m (s.renewSession m))).reply m 0x13) :=
  whenPowered_serve_handle 0x13 (downgradeWindow m) ho hf

theorem exec_upgrade (ho : s.takesOpen m) (hf : handleFormatOk h = true) : exec (.upgrade m h) s =
    .next (((s.renewSession m).withHandle h (upgradeWindow m (s.renewSession m))).reply m 0x14) :=
  whenPowered_serve_handle 0x14 (upgradeWindow m) ho hf

/-- RENEW for more than 60000 ticks is refused before its handle is resolved (R33). -/
theorem refusedWith_renew_tooLong (ticks : Word) (ho : s.takesOpen m) (hf : handleFormatOk h = true)
    (long : 60000 < ticks.toNat) : refusedWith (.renew m h ticks) s m 0x11 .badOperand := by
  refine (whenPowered_next _ s ho.1.1).trans ?_
  rw [takeRenew, hf, serve_gated _ _ (·.openGate m) _ _ (renewed_openGate ho), renewAnswer, Config.maxTicks,
    if_pos long]
  rfl

/-- A changed mode is written into the record the handle names, at the handle's generation (R8, R39). -/
theorem State.changeMode_of_names (mode : AccessMode) (hn : s.names h w) : s.changeMode (handleIndex h) w mode =
    (s.setRecord (handleIndex h) ⟨handleGeneration h, .held { w with mode := mode }⟩).markRewriteOf w := by
  rw [State.changeMode, State.setWindow, hn.1]

end

section
variable {s : State} {m : Master} {i : RecIdx} {w : Window}

/-! ### RENEW, test by test (R33, R34) -/

theorem renewWindow_notOwner (ticks : Nat) (owner : w.owner ≠ m) :
    renewWindow m ticks s i w = s.refuse .notOwner := if_pos owner

theorem renewWindow_draining (ticks : Nat) (owner : w.owner = m) (draining : w.drain ≠ none) :
    renewWindow m ticks s i w = s.refuse .draining := by
  rw [renewWindow, if_neg (not_not.2 owner), if_pos (Option.isSome_iff_ne_none.2 draining)]

theorem renewWindow_notTimed (ticks : Nat) (owner : w.owner = m) (live : w.drain = none)
    (untimed : ∀ l, w.kind ≠ .timed l) : renewWindow m ticks s i w = s.refuse .notTimed := by
  rw [renewWindow, if_neg (not_not.2 owner), if_neg (by simp [live])]
  cases hk : w.kind with
  | timed l => exact absurd hk (untimed l)
  | session | standing _ => rfl

theorem renewWindow_timed (ticks : Nat) (owner : w.owner = m) (live : w.drain = none) (l : Lease)
    (timed : w.kind = .timed l) (n : Nat) (length : (if ticks = 0 then l.length else ticks) = n) :
    renewWindow m ticks s i w =
      (s.setWindow i { w with kind := .timed ⟨n, s.after n, false⟩, touched := false }).ok [word n] := by
  subst length
  rw [renewWindow, if_neg (not_not.2 owner), if_neg (by simp [live]), timed]

/-! ### RELEASE, test by test (R36) -/

theorem releaseWindow_notOwner (owner : w.owner ≠ m) : releaseWindow m s i w = s.refuse .notOwner := if_pos owner

theorem releaseWindow_standing (owner : w.owner = m) (standing : w.isStanding = true) :
    releaseWindow m s i w = s.refuse .standing := by
  rw [releaseWindow, if_neg (not_not.2 owner), if_pos standing]

theorem releaseWindow_retires (owner : w.owner = m) (leased : w.isStanding = false) :
    releaseWindow m s i w = ((s.retire .released i).grantScan).ok [] := by
  rw [releaseWindow, if_neg (not_not.2 owner), if_neg (by simp [leased])]

/-! ### DOWNGRADE and UPGRADE, test by test (R38, R40, R41) -/

theorem downgradeWindow_notOwner (owner : w.owner ≠ m) : downgradeWindow m s i w = s.refuse .notOwner :=
  if_pos owner

theorem downgradeWindow_read (owner : w.owner = m) (mode : w.mode = .read) :
    downgradeWindow m s i w = s.ok [] := by
  rw [downgradeWindow, if_neg (not_not.2 owner), mode]

theorem downgradeWindow_write (owner : w.owner = m) (mode : w.mode = .write) :
    downgradeWindow m s i w = (((s.changeMode i w .read).grantScan).kickEngine).ok [] := by
  rw [downgradeWindow, if_neg (not_not.2 owner), mode]

theorem upgradeWindow_notOwner (owner : w.owner ≠ m) : upgradeWindow m s i w = s.refuse .notOwner := if_pos owner

theorem upgradeWindow_draining (owner : w.owner = m) (draining : w.drain ≠ none) :
    upgradeWindow m s i w = s.refuse .draining := by
  rw [upgradeWindow, if_neg (not_not.2 owner), if_pos (Option.isSome_iff_ne_none.2 draining)]

theorem upgradeWindow_write (owner : w.owner = m) (live : w.drain = none) (mode : w.mode = .write) :
    upgradeWindow m s i w = s.ok [] := by
  rw [upgradeWindow, if_neg (not_not.2 owner), if_neg (by simp [live]), mode]

theorem upgradeWindow_conflict (owner : w.owner = m) (live : w.drain = none) (mode : w.mode = .read)
    (h : (s.overlapOther i w.region).isSome = true ∨ s.queue.any (fun e => w.region.overlaps e.region) = true) :
    upgradeWindow m s i w = ⟨s, .conflict, [blockerIndex (s.overlapOther i w.region)]⟩ := by
  rw [upgradeWindow, if_neg (not_not.2 owner), if_neg (by simp [live]), mode]
  exact if_pos h

theorem upgradeWindow_read (owner : w.owner = m) (live : w.drain = none) (mode : w.mode = .read)
    (windows : s.overlapOther i w.region = none) (waiters : ∀ e ∈ s.queue, w.region.overlaps e.region = false) :
    upgradeWindow m s i w = ((s.changeMode i w .write).kickEngine).ok [] := by
  have alone : ¬ ((s.overlapOther i w.region).isSome = true ∨
      s.queue.any (fun e => w.region.overlaps e.region) = true) := by simpa [windows] using waiters
  rw [upgradeWindow, if_neg (not_not.2 owner), if_neg (by simp [live]), mode]
  exact if_neg alone

end

section
variable (s : State) (i : RecIdx) (r : Region)

/-- The lowest other record in force that overlaps a region (R40). -/
theorem State.overlapOther_eq_some (j : RecIdx) : s.overlapOther i r = some j ↔
    s.isLowest (fun j v => j ≠ i ∧ r.overlaps v.region = true) j :=
  (s.lowest_eq_some _ j).trans (by simp)

theorem State.overlapOther_eq_none : s.overlapOther i r = none ↔
    s.noneInForce (fun j v => j ≠ i ∧ r.overlaps v.region = true) :=
  (s.lowest_eq_none _).trans (by simp)

@[simp] theorem State.renewSession_overlapOther (m : Master) :
    (s.renewSession m).overlapOther i r = s.overlapOther i r := by simp [State.overlapOther]

end

/-! ### LIST (R45, R46) -/

section
variable {s : State} {m : Master} {start target : Word}

/-- LIST goes on to its own tests in every session state (R45). -/
theorem exec_list (ht : s.takes m) : exec (.list m start target) s =
    .next ((listAnswer m start target (s.renewSession m)).reply m 0x16) := by
  refine (whenPowered_next _ s ht.1).trans ?_
  rw [takeList, serve_gated _ _ (·.partGate m) _ _ (renewed_partGate ht)]

theorem listAnswer_badOperand (h : 64 < start.toNat ∨ 6 ≤ target.toNat) :
    listAnswer m start target s = s.refuse .badOperand := by
  unfold listAnswer
  split
  · rfl
  · next inTable => rw [masterOf_eq_none target (h.resolve_left inTable)]

theorem listAnswer_privileged {t : Master} (hs : start.toNat ≤ 64) (ht : target.toNat = t.val) (other : t ≠ m)
    (hm : m ≠ 0) : listAnswer m start target s = s.refuse .privileged := by
  rw [listAnswer, if_neg (Nat.not_lt.2 hs), masterOf_eq_some target t ht]
  exact if_pos ⟨other, hm⟩

theorem listAnswer_listed {t : Master} (hs : start.toNat ≤ 64) (ht : target.toNat = t.val) (allowed : t = m ∨ m = 0) :
    listAnswer m start target s = s.ok (word (continueIndex (s.listed start.toNat t)) ::
      (s.listed start.toNat t).flatMap s.summaryOf) := by
  rw [listAnswer, if_neg (Nat.not_lt.2 hs), masterOf_eq_some target t ht]
  exact if_neg (by tauto)

end

/-- The windows of a master from an index on, as the first six of them are listed (R46). -/
theorem State.listed_eq (s : State) (start : Nat) (t : Master) : s.listed start t =
    ((List.finRange 64).filter fun i =>
      decide (start ≤ i.val) && (s.record i).window.any fun w => decide (w.owner = t)).take 6 := by
  have test : ∀ i : RecIdx, ((s.record i).window.any fun w => decide (start ≤ i.val) && decide (w.owner = t)) =
      (decide (start ≤ i.val) && (s.record i).window.any fun w => decide (w.owner = t)) := fun i => by
    cases (s.record i).window <;> simp
  simp only [State.listed, State.recordsWhere, test]

theorem continueIndex_take (l : List RecIdx) :
    continueIndex (l.take 6) = if h : 5 < l.length then l[5].val + 1 else 64 := by
  have sixth : (l.take 6)[5]? = l[5]? := List.getElem?_take_of_lt (by decide)
  rw [continueIndex, sixth]
  split
  · next i hi =>
    obtain ⟨more, rfl⟩ := List.getElem?_eq_some_iff.1 hi
    rw [dif_pos more]
  · next hi => rw [dif_neg (Nat.not_lt.2 (List.getElem?_eq_none_iff.1 hi))]

@[simp] theorem State.renewSession_listed (s : State) (m : Master) (start : Nat) (t : Master) :
    (s.renewSession m).listed start t = s.listed start t := by simp [State.listed]

@[simp] theorem State.renewSession_summaryOf (s : State) (m : Master) :
    (s.renewSession m).summaryOf = s.summaryOf := by
  funext i
  rw [State.summaryOf, State.summaryOf, State.renewSession_record]
  cases (s.record i).window <;> simp

/-! ### The marks of a slot (R39, R89) -/

section
variable (x : Slot) (work : Option SlotWork)

theorem Slot.markRewrite_clearing (h : x.mark = .clearDue ∨ work = some .clear) : x.markRewrite work = x := if_pos h

/-- A slot marked WRITE_DUE, being written or VALID is to be written, unless it is to be cleared. -/
theorem Slot.markRewrite_due (mark : x.mark ≠ .clearDue) (idle : work ≠ some .clear)
    (h : x.mark = .writeDue ∨ work = some .write ∨ x.content.isValid = true) :
    x.markRewrite work = { x with mark := .writeDue } := by
  rw [Slot.markRewrite, if_neg (not_or.2 ⟨mark, idle⟩), if_pos h]

theorem Slot.markRewrite_writeDue (h : x.mark = .writeDue) : x.markRewrite work = x := by
  by_cases clearing : work = some .clear
  · exact x.markRewrite_clearing work (.inr clearing)
  · rw [x.markRewrite_due work (by simp [h]) clearing (.inl h), ← h]

theorem Slot.markRewrite_untouched (content : x.content = .blank) (mark : x.mark = .none) (idle : work = none) :
    x.markRewrite work = x := by
  simp [Slot.markRewrite, content, mark, idle, SlotContent.isValid]

theorem Slot.markRevoked_kept (h : x.mark = .clearDue ∨ work = some .clear ∨ x.untouched work = true) :
    x.markRevoked work = x := if_pos h

/-- A slot with content, a mark or the engine's write on it is to be cleared. -/
theorem Slot.markRevoked_touched (clearing : work ≠ some .clear)
    (h : x.content ≠ .blank ∨ x.mark ≠ .none ∨ work ≠ none) : x.markRevoked work = { x with mark := .clearDue } := by
  by_cases mark : x.mark = .clearDue
  · rw [x.markRevoked_kept work (.inl mark), ← mark]
  · have touched : ¬ x.untouched work = true := by
      rw [x.untouched_iff work]
      tauto
    rw [Slot.markRevoked, if_neg (by tauto)]

end

theorem State.setSlot_slot_self (s : State) (k : SlotIdx) : s.setSlot k (s.slot k) = s := by
  simp [State.setSlot, State.slot]

section
variable (s : State) {w : Window}

theorem State.markRewriteOf_standing {k : SlotIdx} (hk : w.kind = .standing k) :
    s.markRewriteOf w = s.setSlot k ((s.slot k).markRewrite (s.engine.workOn k)) := by
  rw [State.markRewriteOf, hk]
  rfl

theorem State.markRevokedOf_standing {k : SlotIdx} (hk : w.kind = .standing k) :
    s.markRevokedOf w = s.setSlot k ((s.slot k).markRevoked (s.engine.workOn k)) := by
  rw [State.markRevokedOf, hk]
  rfl

theorem State.markRewriteOf_not_standing (h : w.isStanding = false) : s.markRewriteOf w = s := by
  unfold State.markRewriteOf
  cases hk : w.kind with
  | standing k => simp [Window.isStanding, hk] at h
  | session | timed _ => rfl

theorem State.markRevokedOf_not_standing (h : w.isStanding = false) : s.markRevokedOf w = s := by
  unfold State.markRevokedOf
  cases hk : w.kind with
  | standing k => simp [Window.isStanding, hk] at h
  | session | timed _ => rfl

end

end Sys2Proof.Machine

open Sys2Proof Sys2Proof.Machine

/-- Settles O19, from the cases of `renewWindow`. -/
theorem renewRequest : Obligations.RenewRequest := by
  intro m h ticks s ho hf
  refine ⟨refusedWith_renew_tooLong ticks ho hf, fun w range hn => ?_⟩
  have hexec := exec_renew ticks ho hf range
  refine ⟨fun owner => ?_, fun owner draining => ?_, fun owner live untimed => ?_, fun l owner live timed => ?_⟩
  · exact answered_of_names hexec hn (renewWindow_notOwner _ owner)
  · exact answered_of_names hexec hn (renewWindow_draining _ owner draining)
  · exact answered_of_names hexec hn (renewWindow_notTimed _ owner live untimed)
  · have zero : ticks = 0 ↔ ticks.toNat = 0 := by bv_omega
    simp only [zero]
    refine answered_of_names hexec hn ((renewWindow_timed _ owner live l timed _ rfl).trans ?_)
    simp [State.ok, State.setWindow, word, hn.1]

/-- Settles O20, from the cases of `releaseWindow`. -/
theorem releaseRequest : Obligations.ReleaseRequest := by
  intro m h s w ho hf hn
  have hexec := exec_release ho hf
  refine ⟨fun owner => ?_, fun owner standing => ?_, fun owner leased => ?_⟩
  · exact answered_of_names hexec hn (releaseWindow_notOwner owner)
  · exact answered_of_names hexec hn (releaseWindow_standing owner standing)
  · exact answered_of_names hexec hn (releaseWindow_retires owner leased)

/-- Settles O21, from the cases of `downgradeWindow` and `upgradeWindow`. -/
theorem modeRequests : Obligations.ModeRequests := by
  intro m h s w ho hf hn changed
  have down := exec_downgrade ho hf
  have up := exec_upgrade ho hf
  have change : ∀ mode, (s.renewSession m).changeMode (handleIndex h) w mode = changed mode := fun mode =>
    State.changeMode_of_names mode ((s.renewSession_names m h w).2 hn)
  refine ⟨fun owner => ⟨?_, ?_⟩, fun owner => ⟨fun read => ?_, fun write => ?_, fun draining => ?_,
    fun live write => ?_, fun live read => ⟨fun j lowest => ?_, fun windows waits => ?_, fun windows waiters => ?_⟩⟩⟩
  · exact answered_of_names down hn (downgradeWindow_notOwner owner)
  · exact answered_of_names up hn (upgradeWindow_notOwner owner)
  · exact answered_of_names down hn (downgradeWindow_read owner read)
  · rw [← change]
    exact answered_of_names down hn (downgradeWindow_write owner write)
  · exact answered_of_names up hn (upgradeWindow_draining owner draining)
  · exact answered_of_names up hn (upgradeWindow_write owner live write)
  · have overlap := (s.overlapOther_eq_some (handleIndex h) w.region j).2 lowest
    refine answered_of_names up hn ((upgradeWindow_conflict owner live read (.inl (by simp [overlap]))).trans ?_)
    rw [State.renewSession_overlapOther, overlap]
    rfl
  · have overlap := (s.overlapOther_eq_none (handleIndex h) w.region).2 windows
    refine answered_of_names up hn ((upgradeWindow_conflict owner live read (.inr (by simpa using waits))).trans ?_)
    rw [State.renewSession_overlapOther, overlap]
    rfl
  · have overlap := (s.overlapOther_eq_none (handleIndex h) w.region).2 windows
    rw [← change]
    exact answered_of_names up hn (upgradeWindow_read owner live read (by simpa using overlap) (by simpa using waiters))

/-- Settles O23, from the cases of `listAnswer` and what `State.listed` takes. -/
theorem listReply : Obligations.ListReply := by
  intro m start target s ht
  have hexec := exec_list (start := start) (target := target) ht
  refine ⟨fun h => ?_, fun t hs htarget => ⟨fun other hm => ?_, fun allowed => ?_⟩⟩
  · rw [listAnswer_badOperand h] at hexec
    exact hexec
  · rw [listAnswer_privileged hs htarget other hm] at hexec
    exact hexec
  · rw [listAnswer_listed hs htarget allowed, State.renewSession_listed, State.renewSession_summaryOf,
      s.listed_eq, continueIndex_take] at hexec
    exact hexec

/-- Settles O41, row by row from the rules of the marks. -/
theorem slotMarkTables : Obligations.SlotMarkTables := by
  refine ⟨fun s w h => ⟨s.markRewriteOf_not_standing h, s.markRevokedOf_not_standing h⟩, fun s w k hk => ?_⟩
  intro x work marked
  have rewrite : ∀ y, x.markRewrite work = y → s.markRewriteOf w = s.setSlot k y := fun y h => by
    rw [s.markRewriteOf_standing hk, ← h]
  have revoked : ∀ y, x.markRevoked work = y → s.markRevokedOf w = s.setSlot k y := fun y h => by
    rw [s.markRevokedOf_standing hk, ← h]
  have same : s.setSlot k x = s := s.setSlot_slot_self k
  refine ⟨⟨fun image content mark idle => ?_, fun mark => ?_, fun mark writing => ?_, fun clearing => ?_,
    fun content mark idle => ?_⟩, fun image content mark idle => ?_, fun mark idle => ?_, fun writing => ?_,
    fun clearing => ?_, fun content mark idle => ?_⟩
  · exact rewrite _ (x.markRewrite_due work (by simp [mark]) (by simp [idle]) (.inr (.inr (by rw [content]; rfl))))
  · exact (rewrite _ (x.markRewrite_writeDue work mark)).trans same
  · exact rewrite _ (x.markRewrite_due work mark (by simp [writing]) (.inr (.inl writing)))
  · exact (rewrite _ (x.markRewrite_clearing work clearing)).trans same
  · exact (rewrite _ (x.markRewrite_untouched work content mark idle)).trans same
  · exact revoked _ (x.markRevoked_touched work (by simp [idle]) (.inl (by simp [content])))
  · exact revoked _ (x.markRevoked_touched work (by simp [idle]) (.inr (.inl (by simp [mark]))))
  · exact revoked _ (x.markRevoked_touched work (by simp [writing]) (.inr (.inr (by simp [writing]))))
  · exact (revoked _ (x.markRevoked_kept work (or_assoc.1 (.inl clearing)))).trans same
  · have untouched := (x.untouched_iff work).2 ⟨content, mark, idle⟩
    exact (revoked _ (x.markRevoked_kept work (.inr (.inr untouched)))).trans same

end

section
/-! PROOFS. The grant scan (R51 to R55): what it does with each entry, that it leaves none grantable, and what it leaves
alone. -/

namespace Sys2Proof.Machine

/-! ### Entries held back (R51) -/

/-- A window in force, or an entry of these older ones, conflicts with an entry: condition 1 or 2 of R51 fails. -/
def State.Blocked (s : State) (older : List Waiter) (e : Waiter) : Prop :=
  (∃ i w, (s.record i).window = some w ∧ e.region.conflicts w.region = true) ∨
    ∃ o ∈ older, e.region.conflicts o.region = true

/-- Every entry of a queue is blocked. -/
def State.Stuck (s : State) (q : List Waiter) : Prop :=
  ∀ older e younger, q = older ++ e :: younger → s.Blocked older e

theorem State.heldBack_iff (s : State) (older : List Waiter) (e : Waiter) :
    s.heldBack older e = true ↔ s.Blocked older e := by
  have windows : (s.blocker e.region).isSome = true ↔
      ∃ i w, (s.record i).window = some w ∧ e.region.conflicts w.region = true := by
    rw [Option.isSome_iff_ne_none, ne_eq, s.blocker_eq_none]
    simp [State.noneInForce]
  simp only [State.heldBack, State.Blocked, Bool.or_eq_true, windows, List.any_eq_true]

theorem State.stuck_nil (s : State) : s.Stuck [] := fun older e younger h => by simp at h

/-- An entry joins a stuck queue at the newest end when the queue blocks it. -/
theorem State.Stuck.concat {s : State} {q : List Waiter} {e : Waiter} (h : s.Stuck q) (he : s.Blocked q e) :
    s.Stuck (q ++ [e]) := by
  intro older x younger split
  rcases List.eq_nil_or_concat younger with rfl | ⟨rest, y, rfl⟩
  · obtain ⟨rfl, last⟩ := List.append_inj' split rfl
    obtain rfl := List.head_eq_of_cons_eq last
    exact he
  · rw [List.concat_eq_append, ← List.cons_append, ← List.append_assoc] at split
    exact h older x rest (List.append_inj' split rfl).1

/-- The windows in force of a state stand in another one too, with regions that conflict with all they did. -/
def State.BlocksAsMuch (s t : State) : Prop :=
  ∀ i w, (s.record i).window = some w →
    ∃ v, (t.record i).window = some v ∧ ∀ r : Region, r.conflicts w.region = true → r.conflicts v.region = true

section
variable {s t u : State} {older q : List Waiter} {e : Waiter}

theorem State.BlocksAsMuch.of_record (h : ∀ i, (s.record i).window ≠ none → t.record i = s.record i) :
    s.BlocksAsMuch t := fun i w hw => ⟨w, by rw [h i (by simp [hw]), hw], fun _ hr => hr⟩

theorem State.Blocked.mono (h : s.Blocked older e) (more : s.BlocksAsMuch t) : t.Blocked older e := by
  rcases h with ⟨i, w, hw, conflicts⟩ | older
  · obtain ⟨v, hv, wider⟩ := more i w hw
    exact .inl ⟨i, v, hv, wider _ conflicts⟩
  · exact .inr older

theorem State.Stuck.mono (h : s.Stuck q) (more : s.BlocksAsMuch t) : t.Stuck q :=
  fun older e younger split => (h older e younger split).mono more

theorem State.BlocksAsMuch.tableFull (more : s.BlocksAsMuch t) (full : s.tableFull) : t.tableFull := fun i => by
  obtain ⟨w, hw⟩ := Option.ne_none_iff_exists'.1 (full i)
  obtain ⟨v, hv, -⟩ := more i w hw
  simp [hv]

/-- A window issued into a FREE record blocks no less. -/
theorem State.blocksAsMuch_issue {i : RecIdx} (free : (s.record i).window = none) (w : Window) :
    s.BlocksAsMuch (s.issue i w) := .of_record fun j hj => by
  rw [State.issue_record, if_neg]
  rintro rfl
  exact hj free

end

/-- No entry is grantable exactly when no record is FREE or every entry is blocked (R51). -/
theorem State.waitLaw_iff (s : State) : s.waitLaw ↔ s.tableFull ∨ s.Stuck s.queue := by
  have free : s.tableFull ↔ ¬ 1 ≤ s.freeCount := by
    rw [Nat.not_le, Nat.lt_one_iff, s.freeCount_eq_zero, s.findFree_eq_none]
  have grantable : ∀ n : Fin s.queue.length,
      s.grantable n ↔ ¬ s.Blocked (s.queue.take n.val) s.queue[n] ∧ 1 ≤ s.freeCount := fun n => by
    simp only [State.grantable, State.Blocked, not_or, not_exists, not_and, Bool.not_eq_true, Option.mem_def, and_assoc]
  constructor
  · intro h
    rw [free, or_iff_not_imp_left, not_not]
    intro some_free older e younger split
    have place : older.length < s.queue.length := by rw [split]; simp
    by_contra blocked
    refine h ⟨older.length, place⟩ ((grantable _).2 ⟨?_, some_free⟩)
    simpa [split] using blocked
  · rintro (full | stuck) n hn
    · exact free.1 full ((grantable n).1 hn).2
    · refine ((grantable n).1 hn).1 (stuck _ _ (s.queue.drop (n.val + 1)) ?_)
      simp

/-- The law that no entry is grantable is kept when the queue is the same and the table blocks no less. -/
theorem State.waitLaw_mono {s t : State} (h : s.waitLaw) (more : s.BlocksAsMuch t)
    (queue : t.queue = s.queue) : t.waitLaw := by
  rw [State.waitLaw_iff] at h ⊢
  rw [queue]
  exact h.imp more.tableFull (·.mono more)

/-! ### The walk, case by case (R53 to R55) -/

section
variable (older rest : List Waiter) (e : Waiter) (s : State)

theorem scanFrom_tableFull (full : s.findFree = none) :
    scanFrom older (e :: rest) s = s.setQueue (older ++ e :: rest) := by
  rw [scanFrom, full]

variable {i : RecIdx}

theorem scanFrom_blocked (free : s.findFree = some i) (blocked : s.Blocked older e) :
    scanFrom older (e :: rest) s = scanFrom (older ++ [e]) rest s := by
  rw [scanFrom, free]
  exact if_pos ((s.heldBack_iff older e).2 blocked)

theorem scanFrom_fails (free : s.findFree = some i) (clear : ¬ s.Blocked older e) {cause : FailCause}
    (lacks : s.lackOfRoom e.master e.size = some cause) :
    scanFrom older (e :: rest) s = scanFrom older rest (s.waitFail cause e) := by
  rw [scanFrom, free]
  refine (if_neg (mt (s.heldBack_iff older e).1 clear)).trans ?_
  rw [lacks]

theorem scanFrom_grants (free : s.findFree = some i) (clear : ¬ s.Blocked older e)
    (room : s.lackOfRoom e.master e.size = none) : scanFrom older (e :: rest) s =
      scanFrom older rest ((s.issue i (s.grantedWindow e)).raise e.master .grant) := by
  rw [scanFrom, free]
  refine (if_neg (mt (s.heldBack_iff older e).1 clear)).trans ?_
  rw [room]

end

/-- The walk of the scan, as an induction over the entries not yet reached: what holds of the entries that stay and the
state as the walk begins, and is kept at each entry, holds at its end (R53). -/
theorem scanFrom_induction {P : List Waiter → State → Prop} {Q : State → Prop} (older rest : List Waiter) (s : State)
    (start : P older s) (ends : ∀ older u, P older u → Q (u.setQueue older))
    (full : ∀ older left u, u.findFree = none → P older u → Q (u.setQueue (older ++ left)))
    (stays : ∀ older u, ∀ e ∈ rest, P older u → u.Blocked older e → P (older ++ [e]) u)
    (fails : ∀ older u c, ∀ e ∈ rest, P older u → (c = .quota ∨ c = .limit) → P older (u.waitFail c e))
    (grants : ∀ older u i, ∀ e ∈ rest, P older u → (u.record i).window = none →
      P older ((u.issue i (u.grantedWindow e)).raise e.master .grant)) : Q (scanFrom older rest s) := by
  induction rest generalizing older s with
  | nil => exact ends older s start
  | cons e rest ih =>
    have later : ∀ x ∈ rest, x ∈ e :: rest := fun x hx => List.mem_cons_of_mem e hx
    have here : e ∈ e :: rest := List.mem_cons_self
    have next : ∀ older u, P older u → Q (scanFrom older rest u) := fun older u hu => ih older u hu
      (fun o u x hx => stays o u x (later x hx)) (fun o u c x hx => fails o u c x (later x hx))
      (fun o u i x hx => grants o u i x (later x hx))
    cases free : s.findFree with
    | none =>
      rw [scanFrom_tableFull older rest e s free]
      exact full _ _ _ free start
    | some i =>
      by_cases blocked : s.Blocked older e
      · rw [scanFrom_blocked older rest e s free blocked]
        exact next _ _ (stays _ _ e here start blocked)
      · cases room : s.lackOfRoom e.master e.size with
        | some c =>
          rw [scanFrom_fails older rest e s free blocked room]
          exact next _ _ (fails _ _ c e here start (s.lackOfRoom_cause _ _ c room))
        | none =>
          rw [scanFrom_grants older rest e s free blocked room]
          exact next _ _ (grants _ _ i e here start ((s.findFree_eq_some i).1 free).1)

/-- What no write of the queue touches, and no removal or grant of an entry of the queue, the scan keeps. -/
theorem State.grantScan_induction {P : State → Prop} (s : State) (start : P s)
    (queue : ∀ u q, P u → P (u.setQueue q))
    (fails : ∀ u c, ∀ e ∈ s.queue, P u → P (u.waitFail c e))
    (grants : ∀ u i, ∀ e ∈ s.queue, P u → (u.record i).window = none →
      P ((u.issue i (u.grantedWindow e)).raise e.master .grant)) : P s.grantScan :=
  scanFrom_induction (P := fun _ => P) [] s.queue s start (fun q u => queue u q) (fun _ _ u _ => queue u _)
    (fun _ _ _ _ hu _ => hu) (fun _ u c e he hu _ => fails u c e he hu) (fun _ u i e he => grants u i e he)

/-! ### What the scan leaves -/

/-- The entries that stay are blocked as the walk goes on, and it ends early only when no record is FREE (R51, R53). -/
theorem State.grantScan_waitLaw (s : State) : s.grantScan.waitLaw := by
  refine scanFrom_induction (P := fun older u => u.Stuck older) [] s.queue s s.stuck_nil (fun older u stuck => ?_)
    (fun older left u full _ => ?_) (fun older u e _ stuck blocked => stuck.concat blocked)
    (fun older u c e _ stuck _ => ?_) (fun older u i e _ stuck free => ?_)
  · exact (State.waitLaw_iff _).2 (.inr stuck)
  · exact (State.waitLaw_iff _).2 (.inl ((u.findFree_eq_none).1 full))
  · exact stuck.mono (.of_record fun j _ => by simp)
  · exact (stuck.mono (State.blocksAsMuch_issue free (u.grantedWindow e))).mono (.of_record fun j _ => by simp)

/-- What the scan grants an entry depends on the clock alone (R54). -/
theorem State.grantedWindow_congr {s t : State} (clock : t.clock = s.clock) (e : Waiter) :
    t.grantedWindow e = s.grantedWindow e := by
  unfold State.grantedWindow
  cases e.length <;> simp [State.leaseFor, State.after, State.now, clock]

/-- A FREE record is left as it was, or was issued to an entry of the queue (R54). -/
theorem State.grantScan_record_free (s : State) (i : RecIdx) (free : (s.record i).window = none) :
    s.grantScan.record i = s.record i ∨
      ∃ e ∈ s.queue, s.grantScan.record i =
        ⟨nextGeneration (s.record i).generation, .held (s.grantedWindow e)⟩ := by
  refine (s.grantScan_induction (P := fun u => u.clock = s.clock ∧ (u.record i = s.record i ∨
    ∃ e ∈ s.queue, u.record i = ⟨nextGeneration (s.record i).generation, .held (s.grantedWindow e)⟩))
    ⟨rfl, .inl rfl⟩ (fun u q hu => hu) (fun u c e _ hu => by simpa using hu) fun u j e he ⟨clock, hu⟩ unused => ?_).2
  refine ⟨by simpa using clock, ?_⟩
  by_cases hj : j = i
  · subst hj
    rcases hu with same | ⟨x, -, issued⟩
    · exact .inr ⟨e, he, by simp [State.issue_record, same, State.grantedWindow_congr clock]⟩
    · rw [issued] at unused
      cases unused
  · simpa [State.issue_record, hj] using hu

/-- A master with no entry keeps its tallies, its failure list and its notices (R53 to R56). -/
theorem State.grantScan_other (s : State) (m : Master) (other : ∀ e ∈ s.queue, e.master ≠ m) :
    s.grantScan.tally m = s.tally m ∧ s.grantScan.failureList m = s.failureList m ∧
      s.grantScan.notice m = s.notice m := by
  refine s.grantScan_induction (P := fun u => u.tally m = s.tally m ∧ u.failureList m = s.failureList m ∧
    u.notice m = s.notice m) ⟨rfl, rfl, rfl⟩ (fun u q hu => hu) (fun u c e he hu => ?_) fun u i e he hu _ => ?_
  · have ne := other e he
    rw [State.waitFail_failureList, if_neg ne, State.waitFail, State.raise_notice, if_neg ne]
    simpa using hu
  · have ne := other e he
    have owner : (u.grantedWindow e).owner ≠ m := ne
    rw [State.raise_tally, State.issue_tally, if_neg owner, State.raise_notice, if_neg ne]
    simpa using hu

end Sys2Proof.Machine

open Sys2Proof Sys2Proof.Machine

/-- Settles O25, from the cases of the walk; the tests of a grantable entry are the hypotheses. -/
theorem grantScanWalk : Obligations.GrantScanWalk := by
  refine ⟨fun _ => rfl, fun _ _ => rfl, fun s c e => by rw [State.waitFail, pushFailure_eq],
    fun older rest e s => ?_⟩
  intro blocked
  refine ⟨fun full => ?_, fun i lowest => ?_⟩
  · exact scanFrom_tableFull older rest e s (s.findFree_eq_none.2 full)
  · have free := (s.findFree_eq_some i).2 lowest
    refine ⟨fun held => ?_, fun clear windows => ?_, fun clear windows usage => ?_, fun clear windows usage => ?_⟩
    · exact scanFrom_blocked older rest e s free held
    · exact scanFrom_fails older rest e s free clear (s.lackOfRoom_limit _ _ windows)
    · exact scanFrom_fails older rest e s free clear (s.lackOfRoom_quota _ _ windows usage)
    · have leased : (s.grantedWindow e).isStanding = false := by
        unfold State.grantedWindow
        cases e.length <;> rfl
      rw [scanFrom_grants older rest e s free clear ((s.lackOfRoom_eq_none _ _).2 ⟨windows, usage⟩), State.issue,
        Tally.add_of_not_standing _ _ leased, State.grantedWindow, State.leaseFor_eq]
      rfl

/-- Settles O26. -/
theorem grantScanLeavesNone : Obligations.GrantScanLeavesNone := State.grantScan_waitLaw

/-- Settles O27, from the inductions over the walk. -/
theorem grantScanFrame : Obligations.GrantScanFrame := by
  intro s t
  refine ⟨s.grantScan_queue, s.grantScan_record, fun i free => ?_, s.grantScan_other, by simp [t], by simp [t],
    by simp [t], by simp [t], by simp [t], by simp [t], by simp [t], by simp [t], by simp [t], by simp [t]⟩
  have granted : ∀ e, s.grantedWindow e =
      ⟨e.master, e.base, e.size, e.mode, s.issuedKind e.length, none, e.ticket, false⟩ := fun e => by
    rw [State.grantedWindow, State.leaseFor_eq]
  have issued := s.grantScan_record_free i free
  simp only [granted] at issued
  exact issued

end

section
/-! PROOFS. The laws of the queue and of the owners as one predicate that every operation keeps, and the rules of the
shared operations for it: what precedes a grant scan keeps all of it but the law that no entry is grantable, which the
scan restores. -/

namespace Sys2Proof.Machine

/-! ### The laws of the queue and of the owners -/

/-- The bounds and the tickets of the queue (R48, R49), and that SESSION and TIMED windows, waiters and watches belong
to OPEN sessions (R63, R72, R108). -/
structure State.WaitersSound (s : State) : Prop where
  queue : s.queueLaw
  owners : s.ownerLaw

/-- The same, with no grantable entry in the queue (R51). -/
structure State.QueueSound (s : State) : Prop extends s.WaitersSound where
  waits : s.waitLaw

theorem State.safe.queueSound {s : State} (h : s.safe) : s.QueueSound := by
  obtain ⟨-, -, -, queue, waits, owners, -⟩ := h
  exact ⟨⟨queue, owners⟩, waits⟩

/-- A master owns no SESSION or TIMED window, no waiter and no watch. -/
def State.Vacated (s : State) (m : Master) : Prop :=
  (∀ i : RecIdx, ∀ w ∈ (s.record i).window, w.isStanding = false → w.owner ≠ m) ∧
  (∀ e ∈ s.queue, e.master ≠ m) ∧ ∀ k : WatchIdx, ∀ w ∈ (s.watch k).watch, w.owner ≠ m

/-- Entries taken out of the queue break none of its bounds (R48, R49). -/
theorem State.queueLaw_of_sublist {s t : State} (h : s.queueLaw) (queue : t.queue.Sublist s.queue)
    (counters : ∀ m, (t.session m).ticketCounter = (s.session m).ticketCounter) : t.queueLaw := by
  obtain ⟨length, distinct, tickets⟩ := h
  refine ⟨queue.length_le.trans length, distinct.sublist (queue.map _), fun m => ?_⟩
  obtain ⟨own, zero, counter, unused⟩ := tickets m
  have sub : (t.ticketsOf m).Sublist (s.ticketsOf m) := (queue.filter _).map _
  rw [counters m]
  exact ⟨sub.length_le.trans own, fun h => zero (sub.subset h), counter, fun h => unused (sub.subset h)⟩

namespace State.WaitersSound

variable {s t : State}

/-- Some windows, waiters and watches are gone or written again, and every one there is has an owner whose session was
OPEN; the sessions are as they were. -/
theorem of_owners (h : s.WaitersSound)
    (windows : ∀ i : RecIdx, ∀ w ∈ (t.record i).window, w.isStanding = false →
      (s.session w.owner).state.isOpen = true)
    (watches : ∀ k : WatchIdx, ∀ w ∈ (t.watch k).watch, (s.session w.owner).state.isOpen = true)
    (queue : t.queue.Sublist s.queue) (sessions : t.sessions = s.sessions) : t.WaitersSound := by
  have session : ∀ m, t.session m = s.session m := fun m => by rw [State.session, sessions]; rfl
  obtain ⟨-, waiters, -⟩ := h.owners
  refine ⟨State.queueLaw_of_sublist h.queue queue fun m => by rw [session], ?_, ?_, ?_⟩
  · simpa only [session] using windows
  · simpa only [session] using fun e he => waiters e (queue.subset he)
  · simpa only [session] using watches

/-- The laws read nothing but the table, the queue, the watches, and which sessions are OPEN at what ticket. -/
theorem of_frame (h : s.WaitersSound) (frame : t.table = s.table ∧ t.queue = s.queue ∧ t.watches = s.watches ∧
    ∀ m, (t.session m).ticketCounter = (s.session m).ticketCounter ∧
      (t.session m).state.isOpen = (s.session m).state.isOpen) : t.WaitersSound := by
  obtain ⟨table, queue, watches, sessions⟩ := frame
  have record : ∀ i, t.record i = s.record i := fun i => by rw [State.record, table]; rfl
  have watch : ∀ k, t.watch k = s.watch k := fun k => by rw [State.watch, watches]; rfl
  refine ⟨State.queueLaw_of_sublist h.queue (queue ▸ List.Sublist.refl _) fun m => (sessions m).1, ?_⟩
  simpa only [State.ownerLaw, record, watch, queue, (sessions _).2] using h.owners

/-- A window in force is written again for its owner; it stands if it stood, or its owner's session is OPEN. -/
theorem setWindow (h : s.WaitersSound) {i : RecIdx} {w w' : Window} (hw : (s.record i).window = some w)
    (owner : w'.owner = w.owner)
    (leased : w'.isStanding = false → w.isStanding = false ∨ (s.session w.owner).state.isOpen = true) :
    (s.setWindow i w').WaitersSound := by
  obtain ⟨windows, -, watches⟩ := h.owners
  refine h.of_owners (fun j v hv hs => ?_) (by simpa using watches) (by simp) (by simp)
  rw [State.setWindow_record] at hv
  split at hv
  · obtain rfl := Option.some.inj hv
    rw [owner]
    exact (leased hs).elim (windows i w hw) id
  · exact windows j v hv hs

theorem retire (h : s.WaitersSound) (cause : RetireCause) (i : RecIdx) : (s.retire cause i).WaitersSound := by
  obtain ⟨windows, -, watches⟩ := h.owners
  refine h.of_owners (fun j v hv => ?_) (by simpa using watches) (by simp) (by simp)
  cases hw : (s.record i).window with
  | none =>
    rw [State.retire_free s cause i hw] at hv
    exact windows j v hv
  | some w =>
    rw [State.retire_record s cause i w hw] at hv
    split at hv
    · cases hv
    · exact windows j v hv

theorem retireAll (h : s.WaitersSound) (cause : RetireCause) (l : List RecIdx) :
    (s.retireAll cause l).WaitersSound :=
  List.foldlRecOn _ _ h fun _ ht i _ => ht.retire cause i

theorem drainWindow (h : s.WaitersSound) (cause : DrainCause) (grace : Nat) (i : RecIdx) :
    (s.drainWindow cause grace i).WaitersSound := by
  unfold State.drainWindow
  split
  · exact h
  · next w hw =>
    split
    · exact h.retire _ i
    · exact (h.setWindow (w' := { w with drain := some (s.drainOf w cause grace) }) hw rfl .inl).of_frame (by simp)

end State.WaitersSound

/-- The entries that do not meet the test stay, in order (R63, R64). -/
@[simp] theorem State.removeWaiters_queue (s : State) (c : Option FailCause) (p : Waiter → Bool) :
    (s.removeWaiters c p).queue = s.queue.filter fun e => !p e := by
  unfold State.removeWaiters
  cases c with
  | none => rfl
  | some c => exact List.foldlRecOn (motive := fun t : State => t.queue = _) _ _ rfl fun t ht e _ => by simpa using ht

namespace State.WaitersSound

variable {s t : State}

theorem removeWaiters (h : s.WaitersSound) (c : Option FailCause) (p : Waiter → Bool) :
    (s.removeWaiters c p).WaitersSound := by
  obtain ⟨windows, -, watches⟩ := h.owners
  exact h.of_owners (by simpa using windows) (by simpa using watches) (by simp) (by simp)

/-- The scan issues windows to masters of waiters, whose sessions are OPEN, and leaves no entry grantable. -/
theorem grantScan (h : s.WaitersSound) : s.grantScan.QueueSound := by
  obtain ⟨windows, waiters, watches⟩ := h.owners
  refine ⟨h.of_owners (fun i w hw hs => ?_) (by simpa using watches) s.grantScan_queue (by simp), s.grantScan_waitLaw⟩
  cases held : (s.record i).window with
  | some v =>
    rw [s.grantScan_record i (by simp [held])] at hw
    exact windows i w hw hs
  | none =>
    rcases s.grantScan_record_free i held with same | ⟨e, he, issued⟩
    · rw [same] at hw
      exact windows i w hw hs
    · rw [issued] at hw
      obtain rfl := Option.some.inj hw
      exact waiters e he

theorem freeWatches (h : s.WaitersSound) (m : Master) :
    (s.freeWatches m).WaitersSound ∧ ∀ k, ∀ w ∈ ((s.freeWatches m).watch k).watch, w.owner ≠ m := by
  obtain ⟨windows, -, watches⟩ := h.owners
  have kept : ∀ k, ∀ w ∈ ((s.freeWatches m).watch k).watch, w ∈ (s.watch k).watch ∧ w.owner ≠ m := by
    intro k w hw
    have hk : (s.freeWatches m).watch k = (s.watch k).without m := by simp [State.freeWatches, State.watch]
    rw [hk] at hw
    cases hx : s.watch k with
    | free => rw [hx] at hw; cases hw
    | armed x =>
      by_cases owner : x.owner = m
      · simp [hx, WatchRecord.without, owner, WatchRecord.watch] at hw
      · obtain rfl : x = w := by simpa [hx, WatchRecord.without, owner, WatchRecord.watch] using hw
        exact ⟨rfl, owner⟩
  exact ⟨h.of_owners (by simpa using windows) (fun k w hw => watches k w (kept k w hw).1) (by simp) (by simp),
    fun k w hw => (kept k w hw).2⟩

/-- A session changes its state: to OPEN, or when its master owns nothing that needs it OPEN. -/
theorem setSessionState (h : s.WaitersSound) (m : Master) {x : SessionState} (vacated : x.isOpen = true ∨ s.Vacated m) :
    (s.setSessionState m x).WaitersSound := by
  obtain ⟨windows, waiters, watches⟩ := h.owners
  have counter : ∀ k, ((s.setSessionState m x).session k).ticketCounter = (s.session k).ticketCounter := fun k => by
    rw [State.setSessionState, State.setSession_session]
    split
    · next e => rw [e]
    · rfl
  have opened : ∀ k, (s.session k).state.isOpen = true → (x.isOpen = true ∨ k ≠ m) →
      ((s.setSessionState m x).session k).state.isOpen = true := fun k hk hx => by
    rw [State.setSessionState, State.setSession_session]
    split
    · next e => exact hx.resolve_right (not_not.2 e.symm)
    · exact hk
  refine ⟨State.queueLaw_of_sublist h.queue (List.Sublist.refl _) counter, fun i w hw hs => ?_, fun e he => ?_,
    fun k w hw => ?_⟩
  · exact opened _ (windows i w hw hs) (vacated.imp_right fun v => v.1 i w hw hs)
  · exact opened _ (waiters e he) (vacated.imp_right fun v => v.2.1 e he)
  · exact opened _ (watches k w hw) (vacated.imp_right fun v => v.2.2 k w hw)

/-- A session end leaves its master nothing that needs the session OPEN, and then ends it (R72). -/
theorem endSession (h : s.WaitersSound) (m : Master) (cause : RetireCause) (fail : Option FailCause)
    (after : SessionState) : (s.endSession m cause fail after).QueueSound := by
  let ending := s.recordsWhere fun _ w => endsWith m w
  have removed := (h.retireAll cause ending).removeWaiters fail fun e => decide (e.master = m)
  obtain ⟨freed, watches⟩ := removed.freeWatches m
  refine (freed.setSessionState m (.inr ⟨fun i w hw hs owner => ?_, fun e he => ?_, watches⟩)).grantScan
  · rw [State.freeWatches_record, State.removeWaiters_record] at hw
    by_cases listed : i ∈ ending
    · obtain ⟨v, hv, -⟩ := (s.mem_recordsWhere _ i).1 listed
      rw [State.retireAll_record_of_mem s cause ending i v listed hv] at hw
      cases hw
    · rw [State.retireAll_record_of_notMem s cause ending i listed] at hw
      exact listed ((s.mem_recordsWhere _ i).2 ⟨w, hw, by simp [endsWith, owner, hs]⟩)
  · simp only [State.freeWatches_queue, State.removeWaiters_queue, State.retireAll_queue] at he
    simpa using (List.mem_filter.1 he).2

end State.WaitersSound

/-! ### Drains and the widening leave no entry grantable (R51, R140, R141) -/

theorem State.BlocksAsMuch.refl (s : State) : s.BlocksAsMuch s := .of_record fun _ _ => rfl

theorem State.BlocksAsMuch.trans {s t u : State} (h : s.BlocksAsMuch t) (h' : t.BlocksAsMuch u) : s.BlocksAsMuch u :=
  fun i w hw => by
    obtain ⟨v, hv, wider⟩ := h i w hw
    obtain ⟨x, hx, widest⟩ := h' i v hv
    exact ⟨x, hx, fun r hr => widest r (wider r hr)⟩

/-- A window written again with its range, and with its mode or for WRITE, blocks no less. -/
theorem State.blocksAsMuch_setWindow {s : State} {i : RecIdx} {w w' : Window} (hw : (s.record i).window = some w)
    (base : w'.base = w.base) (size : w'.size = w.size) (mode : w'.mode = w.mode ∨ w'.mode = .write) :
    s.BlocksAsMuch (s.setWindow i w') := fun j v hv => by
  by_cases hj : i = j
  · subst hj
    obtain rfl := Option.some.inj (hw.symm.trans hv)
    refine ⟨w', by simp [State.setWindow_record], fun r hr => ?_⟩
    rw [Region.conflicts_iff] at hr ⊢
    refine ⟨by simpa [Region.overlaps, Window.region, base, size] using hr.1, ?_⟩
    rcases mode with same | write
    · simpa [Window.region, same] using hr.2
    · exact .inr write
  · exact ⟨v, by simpa [State.setWindow_record, hj] using hv, fun _ hr => hr⟩

/-- A drain with a grace of 1 or more leaves every window in force with its region. -/
theorem State.blocksAsMuch_drainWindow (s : State) (cause : DrainCause) {grace : Nat} (hg : grace ≠ 0) (i : RecIdx) :
    s.BlocksAsMuch (s.drainWindow cause grace i) := by
  cases hw : (s.record i).window with
  | none => simpa [State.drainWindow, hw] using State.BlocksAsMuch.refl s
  | some w =>
    rw [State.drainWindow_grace s cause grace i w hw hg]
    exact (State.blocksAsMuch_setWindow (w' := { w with drain := some (s.drainOf w cause grace) }) hw rfl rfl
      (.inl rfl)).trans (.of_record fun j _ => by simp [State.setWindow])

/-- The windows a widening reaches (R140). -/
def State.bandTaken (s : State) (value : Nat) : List RecIdx := s.recordsWhere fun _ w => bandTakes value w

/-- The state a widening leaves before it removes waiters (R140). -/
def State.bandDrained (s : State) (value grace : Nat) : State :=
  (s.bandTaken value).foldl (fun t i => t.drainWindow .banded grace i) s

/-- The state a widening leaves before its grant scan (R140, R141). -/
def State.bandRemoved (s : State) (value grace : Nat) : State :=
  (s.bandDrained value grace).removeWaiters (some .banded) (bandTakesWaiter value)

/-- The widening runs the scan when it retired a window or removed a waiter (R140, R141). -/
theorem State.widen_cases (s : State) (value grace : Nat) :
    s.widen value grace = (s.bandRemoved value grace).grantScan ∨
    s.widen value grace = s.bandRemoved value grace ∧ (grace ≠ 0 ∨ s.bandTaken value = []) ∧
      ∀ e ∈ s.queue, bandTakesWaiter value e = false := by
  by_cases scans : (grace = 0 ∧ s.bandTaken value ≠ []) ∨ s.queue.any (bandTakesWaiter value) = true
  · exact .inl (if_pos scans)
  · refine .inr ⟨if_neg scans, ?_, ?_⟩
    · rw [← not_ne_iff (b := ([] : List RecIdx))]
      tauto
    · simpa using (not_or.1 scans).2

theorem State.bandDrained_queue (s : State) (value grace : Nat) : (s.bandDrained value grace).queue = s.queue :=
  List.foldlRecOn (motive := fun t : State => t.queue = s.queue) _ _ rfl fun t ht i _ => by simpa using ht

theorem State.bandRemoved_queue (s : State) (value grace : Nat) :
    (s.bandRemoved value grace).queue = s.queue.filter fun e => !bandTakesWaiter value e := by
  rw [State.bandRemoved, State.removeWaiters_queue, s.bandDrained_queue]

/-- With a grace of 1 or more, or no window to retire, the windows that block stand (R140). -/
theorem State.blocksAsMuch_bandRemoved (s : State) (value : Nat) {grace : Nat}
    (h : grace ≠ 0 ∨ s.bandTaken value = []) : s.BlocksAsMuch (s.bandRemoved value grace) := by
  have drained : s.BlocksAsMuch (s.bandDrained value grace) := by
    rcases h with hg | none_taken
    · exact List.foldlRecOn (motive := fun t : State => s.BlocksAsMuch t) _ _ (.refl s)
        fun t ht i _ => ht.trans (t.blocksAsMuch_drainWindow .banded hg i)
    · rw [State.bandDrained, none_taken]
      exact .refl s
  exact drained.trans (.of_record fun j _ => by simp [State.bandRemoved])

/-- A widening leaves no entry grantable if none was (R51, R140, R141). -/
theorem State.widen_waitLaw (s : State) (value grace : Nat) (h : s.waitLaw) : (s.widen value grace).waitLaw := by
  obtain scanned | ⟨left, kept, stay⟩ := s.widen_cases value grace
  · exact scanned ▸ State.grantScan_waitLaw _
  · rw [left]
    refine State.waitLaw_mono h (s.blocksAsMuch_bandRemoved value kept) ?_
    rw [s.bandRemoved_queue, List.filter_eq_self]
    exact fun e he => by simp [stay e he]

/-! ### A claim joins the queue (R31) -/

section
variable {s : State} {e : Waiter}

@[simp] theorem State.enqueue_queue (s : State) (e : Waiter) : (s.enqueue e).queue = s.queue ++ [e] := rfl

theorem State.enqueue_sessionState (s : State) (e : Waiter) (m : Master) :
    ((s.enqueue e).session m).state = (s.session m).state := by
  rw [State.enqueue, State.setSession_session]
  split
  · next same => exact same ▸ rfl
  · rfl

theorem State.mem_ticketsOf_enqueue (m : Master) (x : Word) :
    x ∈ (s.enqueue e).ticketsOf m ↔ x ∈ s.ticketsOf m ∨ e.master = m ∧ e.ticket = x := by
  simp only [State.mem_ticketsOf, State.enqueue_queue, List.mem_append, List.mem_singleton, or_and_right, exists_or,
    exists_eq_left]

/-- With room for the claim and its master's counter for its ticket, the queue keeps its bounds (R48, R49). -/
theorem State.queueLaw_enqueue (h : s.queueLaw) (ticket : e.ticket = (s.session e.master).ticketCounter)
    (room : s.queue.length < 16) (own : (s.queue.countP fun x => decide (x.master = e.master)) < 4) :
    (s.enqueue e).queueLaw := by
  obtain ⟨-, distinct, tickets⟩ := h
  obtain ⟨next, left, nonzero, fresh, -⟩ := s.enqueue_spec e own
  have counter : ∀ m, ((s.enqueue e).session m).ticketCounter =
      if e.master = m then next else (s.session m).ticketCounter := fun m => by
    rw [left, State.setSession_session]
    split <;> rfl
  refine ⟨?_, ?_, fun m => ?_⟩
  · rw [State.enqueue_queue, List.length_append]
    exact room
  · rw [State.enqueue_queue, List.map_append, List.map_singleton, List.nodup_append_comm, List.singleton_append,
      List.nodup_cons]
    refine ⟨fun mem => ?_, distinct⟩
    obtain ⟨x, hx, same⟩ := List.mem_map.1 mem
    obtain ⟨master, used⟩ := Prod.mk.inj same
    exact (tickets e.master).2.2.2 ((s.mem_ticketsOf _ _).2 ⟨x, hx, master, used.trans ticket⟩)
  · obtain ⟨few, zero, countsOn, unused⟩ := tickets m
    rw [counter, State.mem_ticketsOf_enqueue, not_or]
    refine ⟨?_, ⟨zero, fun ⟨_, isZero⟩ => (tickets e.master).2.2.1 (ticket.symm.trans isZero)⟩, ?_⟩
    · rw [State.length_ticketsOf] at few ⊢
      rw [State.enqueue_queue, List.countP_append, List.countP_singleton]
      split
      · next same =>
        obtain rfl := of_decide_eq_true same
        omega
      · exact few
    · split
      · next same =>
        refine ⟨nonzero, fun mem => ?_⟩
        obtain ⟨x, hx, master, used⟩ := (State.mem_ticketsOf _ _ _).1 mem
        exact fresh x hx (master.trans same.symm) used
      · next other =>
        refine ⟨countsOn, ?_⟩
        rw [State.mem_ticketsOf_enqueue, not_or]
        exact ⟨unused, fun joins => other joins.1⟩

theorem State.ownerLaw_enqueue (h : s.ownerLaw) (opened : (s.session e.master).state.isOpen = true) :
    (s.enqueue e).ownerLaw := by
  obtain ⟨windows, waiters, watches⟩ := h
  refine ⟨?_, fun x hx => ?_, ?_⟩
  · simpa only [State.enqueue_record, State.enqueue_sessionState] using windows
  · rw [State.enqueue_sessionState]
    rcases List.mem_append.1 (s.enqueue_queue e ▸ hx) with old | new
    · exact waiters x old
    · rwa [List.mem_singleton.1 new]
  · simpa only [State.enqueue_watch, State.enqueue_sessionState] using watches

end

/-! ### The rules of the operations no scan follows -/

namespace State.QueueSound

variable {s t : State}

theorem of_frame (h : s.QueueSound) (frame : t.table = s.table ∧ t.queue = s.queue ∧ t.watches = s.watches ∧
    ∀ m, (t.session m).ticketCounter = (s.session m).ticketCounter ∧
      (t.session m).state.isOpen = (s.session m).state.isOpen) : t.QueueSound :=
  ⟨h.toWaitersSound.of_frame frame,
    State.waitLaw_mono h.waits (.of_record fun i _ => by rw [State.record, frame.1]; rfl) frame.2.1⟩

/-- The watches are written again, each for the owner it had (R112). -/
theorem of_watches (h : s.QueueSound)
    (watch : ∀ k, ∀ w ∈ (t.watch k).watch, (s.session w.owner).state.isOpen = true)
    (frame : t.table = s.table ∧ t.queue = s.queue ∧ t.sessions = s.sessions) : t.QueueSound := by
  obtain ⟨table, queue, sessions⟩ := frame
  have record : ∀ i, t.record i = s.record i := fun i => by rw [State.record, table]; rfl
  exact ⟨h.of_owners (by simpa only [record] using h.owners.1) watch (queue ▸ List.Sublist.refl _) sessions,
    State.waitLaw_mono h.waits (.of_record fun i _ => record i) queue⟩

/-- A window in force is written again for its owner and range, with its mode or for WRITE; it stands if it stood, or
its owner's session is OPEN. -/
theorem setWindow (h : s.QueueSound) {i : RecIdx} {w w' : Window} (hw : (s.record i).window = some w)
    (owner : w'.owner = w.owner) (base : w'.base = w.base) (size : w'.size = w.size)
    (mode : w'.mode = w.mode ∨ w'.mode = .write)
    (leased : w'.isStanding = false → w.isStanding = false ∨ (s.session w.owner).state.isOpen = true) :
    (s.setWindow i w').QueueSound :=
  ⟨h.toWaitersSound.setWindow hw owner leased,
    State.waitLaw_mono h.waits (State.blocksAsMuch_setWindow hw base size mode) (by simp)⟩

/-- A window is issued into a FREE record: it stands, or its owner's session is OPEN. -/
theorem issue (h : s.QueueSound) {i : RecIdx} {w : Window} (free : (s.record i).window = none)
    (leased : w.isStanding = false → (s.session w.owner).state.isOpen = true) : (s.issue i w).QueueSound := by
  obtain ⟨windows, -, watches⟩ := h.owners
  refine ⟨h.of_owners (fun j v hv hs => ?_) (by simpa using watches) (by simp) (by simp),
    State.waitLaw_mono h.waits (State.blocksAsMuch_issue free w) (by simp)⟩
  rw [State.issue_record] at hv
  split at hv
  · obtain rfl := Option.some.inj hv
    exact leased hs
  · exact windows j v hv hs

theorem setSessionState (h : s.QueueSound) (m : Master) {x : SessionState}
    (vacated : x.isOpen = true ∨ s.Vacated m) : (s.setSessionState m x).QueueSound :=
  ⟨h.toWaitersSound.setSessionState m vacated, h.waits⟩

/-- The master of a session that is not OPEN owns nothing that needs it OPEN. -/
theorem vacated_of_not_open (h : s.QueueSound) (m : Master) (shut : (s.session m).state.isOpen = false) :
    s.Vacated m := by
  obtain ⟨windows, waiters, watches⟩ := h.owners
  have other : ∀ k, (s.session k).state.isOpen = true → k ≠ m := by
    rintro k opened rfl
    rw [shut] at opened
    cases opened
  exact ⟨fun i w hw hs => other _ (windows i w hw hs), fun e he => other _ (waiters e he),
    fun k w hw => other _ (watches k w hw)⟩

/-- A claim with room in the queue that cannot be granted joins it (R31, R48 to R51). -/
theorem enqueue (h : s.QueueSound) {e : Waiter} (ticket : e.ticket = (s.session e.master).ticketCounter)
    (opened : (s.session e.master).state.isOpen = true) (room : s.queue.length < 16)
    (own : (s.queue.countP fun x => decide (x.master = e.master)) < 4) (blocked : s.tableFull ∨ s.Blocked s.queue e) :
    (s.enqueue e).QueueSound := by
  have more : s.BlocksAsMuch (s.enqueue e) := .of_record fun i _ => by simp
  refine ⟨⟨State.queueLaw_enqueue h.queue ticket room own, State.ownerLaw_enqueue h.owners opened⟩, ?_⟩
  rw [State.waitLaw_iff, State.enqueue_queue]
  rcases (State.waitLaw_iff s).1 h.waits with full | stuck
  · exact .inl (more.tableFull full)
  · exact blocked.imp more.tableFull fun last => (stuck.concat last).mono more

/-- A start leaves an empty queue, and no window, watch or session (R147). -/
theorem beginStart (s : State) (cause : StartCause) (hold : Bool) : (s.beginStart cause hold).QueueSound := by
  refine ⟨⟨⟨by simp, by simp, fun m => ⟨by simp [State.ticketsOf], by simp [State.ticketsOf], ?_,
    by simp [State.ticketsOf]⟩⟩, fun i w hw => by simp at hw, fun e he => by simp at he,
    fun k w hw => by simp [WatchRecord.watch] at hw⟩, fun n => absurd n.isLt (Nat.not_lt_zero _)⟩
  rw [State.beginStart_session, Session.atStart]
  split <;> simp

theorem widen (h : s.QueueSound) (value grace : Nat) : (s.widen value grace).QueueSound := by
  have drained : (s.bandDrained value grace).WaitersSound :=
    List.foldlRecOn _ _ h.toWaitersSound fun t ht i _ => ht.drainWindow .banded grace i
  have removed := drained.removeWaiters (some .banded) (bandTakesWaiter value)
  refine ⟨?_, s.widen_waitLaw value grace h.waits⟩
  obtain scanned | ⟨left, -⟩ := s.widen_cases value grace
  · exact scanned ▸ removed.grantScan.toWaitersSound
  · exact left ▸ removed

end State.QueueSound

end Sys2Proof.Machine

end

section
/-! PROOFS. The rules of the requests and of the events for the laws of the queue and of the owners, and the statements
that a step keeps them. -/

namespace Sys2Proof.Machine

/-- Past the session test the sender's session is OPEN (R68). -/
theorem State.isOpen_of_openGate {s : State} {m : Master} (h : s.openGate m = none) :
    (s.session m).state.isOpen = true := by
  have session : s.sessionGate m = none := by
    unfold State.openGate at h
    split at h
    · cases h
    · exact h
  unfold State.sessionGate at session
  split at session
  · cases session
  · cases session
  · next hs => rw [hs]; rfl

theorem Window.warn_eq (w : Window) :
    w.warn.owner = w.owner ∧ w.warn.base = w.base ∧ w.warn.size = w.size ∧ w.warn.mode = w.mode ∧
      w.warn.isStanding = w.isStanding := by
  unfold Window.warn
  cases hk : w.kind <;> simp [Window.isStanding, hk]

namespace State.QueueSound

variable {s : State}

/-! ### Pieces the laws do not read -/

theorem setLink (h : s.QueueSound) (m : Master) (l : Link) : (s.setLink m l).QueueSound := h.of_frame (by simp)
theorem setNotice (h : s.QueueSound) (m : Master) (n : Notice) : (s.setNotice m n).QueueSound := h.of_frame (by simp)
theorem setEngine (h : s.QueueSound) (e : Engine) : (s.setEngine e).QueueSound := h.of_frame (by simp)
theorem setCheck (h : s.QueueSound) (c : CheckUnit) : (s.setCheck c).QueueSound := h.of_frame (by simp)
theorem setStartUp (h : s.QueueSound) (u : StartUp) : (s.setStartUp u).QueueSound := h.of_frame (by simp)
theorem setPins (h : s.QueueSound) (p : Pins) : (s.setPins p).QueueSound := h.of_frame (by simp)
theorem raise (h : s.QueueSound) (m : Master) (f : Flag) : (s.raise m f).QueueSound := h.of_frame (by simp)
theorem changeSlot (h : s.QueueSound) (k : SlotIdx) (f : Slot → Option SlotWork → Slot) :
    (s.changeSlot k f).QueueSound := h.of_frame (by simp)
theorem kickEngine (h : s.QueueSound) : s.kickEngine.QueueSound := h.of_frame (by simp)
theorem endOperation (h : s.QueueSound) : s.endOperation.QueueSound := h.of_frame (by simp)

/-! ### Requests -/

/-- A window in force is written again for its owner and range, with its mode and lease kind. -/
theorem setWindow_same (h : s.QueueSound) {i : RecIdx} {w w' : Window} (hw : (s.record i).window = some w)
    (owner : w'.owner = w.owner) (base : w'.base = w.base) (size : w'.size = w.size) (mode : w'.mode = w.mode)
    (standing : w'.isStanding = w.isStanding) : (s.setWindow i w').QueueSound :=
  h.setWindow hw owner base size (.inl mode) fun leased => .inl (standing ▸ leased)

theorem openAnswer (h : s.QueueSound) (m : Master) (period : Nat) : (openAnswer m period s).state.QueueSound := by
  unfold Machine.openAnswer
  split
  · exact h
  · split
    · exact h
    · exact h.setSessionState m (.inl rfl)
    · exact h.setSessionState m (.inl rfl)

/-- CLOSE of an OPEN session ends it; a LAPSED session owns nothing that needs it OPEN (R70). -/
theorem closeAnswer (h : s.QueueSound) (m : Master) : (closeAnswer m s).state.QueueSound := by
  unfold Machine.closeAnswer
  split
  · exact h.endSession m _ _ _
  · next lapsed => exact h.setSessionState m (.inr (h.vacated_of_not_open m (by rw [lapsed]; rfl)))
  · exact h

theorem evictAnswer (h : s.QueueSound) (target : Word) : (evictAnswer target s).state.QueueSound := by
  unfold Machine.evictAnswer
  split
  · exact h
  · next t _ =>
    unfold evictTarget
    split
    · exact h.endSession t _ _ _
    · next lapsed => exact h.setSessionState t (.inr (h.vacated_of_not_open t (by rw [lapsed]; rfl)))
    · exact h

/-- A claim that is not granted has something in its way, and joins the queue only with room (R29 to R31, R48). -/
theorem claimAnswer (h : s.QueueSound) (m : Master) (c : ClaimOperands) (opened : (s.session m).state.isOpen = true) :
    (claimAnswer m c s).state.QueueSound := by
  refine State.gated_keeps h fun _ => State.gated_keeps h fun _ => ?_
  split
  · next i hi =>
    obtain ⟨-, free, -⟩ := (s.claimGrant_eq_some c i).1 hi
    exact h.issue free fun _ => opened
  · next ungranted =>
    unfold State.claimWaits
    split
    · split
      · next room =>
        rw [s.length_ticketsOf, Config.maxWaiters, Config.maxWaitersPerMaster] at room
        refine h.enqueue rfl opened room.1 room.2 ?_
        unfold State.claimGrant at ungranted
        split at ungranted
        · next conflicts =>
          rw [Option.isSome_iff_ne_none, ne_eq, s.blocker_eq_none, s.waiterConflicts_iff] at conflicts
          refine .inr (conflicts.imp_left fun windows => ?_)
          simpa [State.noneInForce, Waiter.region, ClaimOperands.region, State.claimWaiter] using windows
        · exact .inl (s.findFree_eq_none.1 ungranted)
      · exact h
    · split <;> exact h

theorem renewWindow (h : s.QueueSound) (m : Master) (ticks : Nat) {i : RecIdx} {w : Window}
    (hw : (s.record i).window = some w) : (renewWindow m ticks s i w).state.QueueSound := by
  unfold Machine.renewWindow
  split
  · exact h
  · split
    · exact h
    · split
      · next l hk => exact h.setWindow_same hw rfl rfl rfl rfl (by simp [Window.isStanding, hk])
      · exact h
      · exact h

theorem releaseWindow (h : s.QueueSound) (m : Master) (i : RecIdx) (w : Window) :
    (releaseWindow m s i w).state.QueueSound := by
  unfold Machine.releaseWindow
  split
  · exact h
  · split
    · exact h
    · exact (h.retire _ i).grantScan

theorem downgradeWindow (h : s.QueueSound) (m : Master) {i : RecIdx} {w : Window}
    (hw : (s.record i).window = some w) : (downgradeWindow m s i w).state.QueueSound := by
  unfold Machine.downgradeWindow
  split
  · exact h
  · split
    · exact h
    · have changed : (s.changeMode i w .read).WaitersSound :=
        (h.toWaitersSound.setWindow (w' := { w with mode := .read }) hw rfl .inl).of_frame
          (by simp [State.changeMode])
      exact changed.grantScan.kickEngine

theorem upgradeWindow (h : s.QueueSound) (m : Master) {i : RecIdx} {w : Window}
    (hw : (s.record i).window = some w) : (upgradeWindow m s i w).state.QueueSound := by
  unfold Machine.upgradeWindow
  split
  · exact h
  · split
    · exact h
    · split
      · exact h
      · split
        · exact h
        · have changed : (s.changeMode i w .write).QueueSound :=
            (h.setWindow (w' := { w with mode := .write }) hw rfl rfl rfl (.inr rfl) .inl).of_frame
              (by simp [State.changeMode])
          exact changed.kickEngine

theorem cancelAnswer (h : s.QueueSound) (m : Master) (t : Word) : (cancelAnswer m t s).state.QueueSound := by
  unfold Machine.cancelAnswer
  split
  · exact (h.removeWaiters _ _).grantScan
  · exact h
  · exact h
  · exact h

theorem ticketAnswer (h : s.QueueSound) (m : Master) (t : Word) : (ticketAnswer m t s).state.QueueSound := by
  unfold Machine.ticketAnswer
  split <;> exact h

theorem listAnswer (h : s.QueueSound) (m : Master) (start target : Word) :
    (listAnswer m start target s).state.QueueSound := by
  unfold Machine.listAnswer
  split
  · exact h
  · split
    · exact h
    · split <;> exact h

theorem standAnswer (h : s.QueueSound) (m : Master) {i : RecIdx} {w : Window} (hw : (s.record i).window = some w) :
    (standAnswer m s i w).state.QueueSound := by
  unfold Machine.standAnswer
  split
  · exact h
  · split
    · exact h
    · split
      · exact h
      · split
        · exact h
        · split
          · exact h
          · next k _ =>
            have stood : (s.standWindow i w k).QueueSound :=
              (h.setWindow (w' := { w with kind := .standing k }) hw rfl rfl rfl (.inl rfl) nofun).of_frame
                ⟨by simp [State.standWindow, State.setWindow, State.setRecord], by simp, by simp, by simp⟩
            exact stood.kickEngine

/-- UNSTAND makes the window need its owner's session, which its test found OPEN (R136). -/
theorem unstandAnswer (h : s.QueueSound) (m : Master) {i : RecIdx} {w : Window} (hw : (s.record i).window = some w)
    (opened : (s.session m).state.isOpen = true) : (unstandAnswer m s i w).state.QueueSound := by
  unfold Machine.unstandAnswer
  split
  · exact h
  · next ho =>
    obtain rfl := not_not.1 ho
    split
    · exact h
    · exact h
    · split
      · exact h
      · next k _ _ =>
        have changed : (s.unstandWindow i w k).QueueSound :=
          (h.setWindow (w' := { w with kind := .session }) hw rfl rfl rfl (.inl rfl) fun _ => .inr opened).of_frame
            (by simp [State.unstandWindow])
        exact changed.kickEngine

/-- A watch is set for a master whose session is OPEN (R109). -/
theorem setWatch (h : s.QueueSound) {k : WatchIdx} {w : Watch} (opened : (s.session w.owner).state.isOpen = true) :
    (s.setWatch k (.armed w)).QueueSound := by
  refine h.of_watches (fun j v hv => ?_) (by simp)
  rw [State.setWatch_watch] at hv
  split at hv
  · obtain rfl := Option.some.inj hv
    exact opened
  · exact h.owners.2.2 j v hv

theorem watchSetAnswer (h : s.QueueSound) (m : Master) (base size : Nat) (kinds : WatchKinds)
    (opened : (s.session m).state.isOpen = true) : (watchSetAnswer m base size kinds s).state.QueueSound := by
  unfold Machine.watchSetAnswer
  split
  · exact h
  · split
    · exact h
    · split
      · exact h
      · exact h.setWatch opened

theorem watchClear (h : s.QueueSound) (k : WatchIdx) : (s.setWatch k .free).QueueSound := by
  refine h.of_watches (fun j w hw => ?_) (by simp)
  rw [State.setWatch_watch] at hw
  split at hw
  · cases hw
  · exact h.owners.2.2 j w hw

/-- An ARMED watch is written again for its owner (R111, R112). -/
theorem rewriteWatch (h : s.QueueSound) {k : WatchIdx} {w w' : Watch} (hk : (s.watch k).watch = some w)
    (owner : w'.owner = w.owner) : (s.setWatch k (.armed w')).QueueSound :=
  h.setWatch (owner ▸ h.owners.2.2 k w hk)

theorem purgeAnswer (h : s.QueueSound) (slot : Word) : (purgeAnswer slot s).state.QueueSound := by
  unfold Machine.purgeAnswer
  split
  · exact h
  · next k _ =>
    split
    · have purged : (s.purgeWindow (s.slot k).binding).QueueSound := by
        cases (s.slot k).binding with
        | none => exact h
        | some i => exact (h.retire _ i).grantScan
      exact (purged.changeSlot k _).kickEngine
    · exact h

/-- A session record keeps its state and its ticket counter (R84). -/
theorem setSession_same (h : s.QueueSound) {m : Master} {x : Session} (state : x.state = (s.session m).state)
    (counter : x.ticketCounter = (s.session m).ticketCounter) : (s.setSession m x).QueueSound := by
  refine h.of_frame ⟨rfl, rfl, rfl, fun k => ?_⟩
  rw [State.setSession_session]
  split
  · next e => rw [← e, state, counter]; exact ⟨rfl, rfl⟩
  · exact ⟨rfl, rfl⟩

theorem quotaAnswer (h : s.QueueSound) (target : Word) (quota allowance : Nat) :
    (quotaAnswer target quota allowance s).state.QueueSound := by
  unfold Machine.quotaAnswer
  split
  · exact h
  · split
    · exact h
    · split
      · exact h
      · exact h.setSession_same rfl rfl

/-- A drain with a grace of 1 or more keeps what blocks the queue; with grace 0 a scan follows (R87, R88). -/
theorem drainWindow (h : s.QueueSound) (cause : DrainCause) {grace : Nat} (hg : grace ≠ 0) (i : RecIdx) :
    (s.drainWindow cause grace i).QueueSound :=
  ⟨h.toWaitersSound.drainWindow cause grace i,
    State.waitLaw_mono h.waits (s.blocksAsMuch_drainWindow cause hg i) (by simp)⟩

theorem revokeAnswer (h : s.QueueSound) (x : Word) (grace : Nat) : (revokeAnswer x grace s).state.QueueSound := by
  unfold Machine.revokeAnswer
  split
  · exact h
  · refine State.withHandle_keeps h fun i w _ => ?_
    unfold Machine.revokeWindow
    split
    · exact (h.toWaitersSound.drainWindow .revoked 0 i).grantScan.kickEngine
    · next hg =>
      have marked : ((s.drainWindow .revoked grace i).markRevokedOf w).QueueSound :=
        (h.drainWindow .revoked hg i).of_frame (by simp)
      exact marked.kickEngine

theorem bandAnswer (h : s.QueueSound) (value grace : Nat) : (bandAnswer value grace s).state.QueueSound := by
  unfold Machine.bandAnswer
  split
  · exact h
  · have pending : (s.setPendingBand value).QueueSound := h.of_frame (by simp)
    unfold bandValueAnswer
    split
    · exact (pending.widen value grace).kickEngine
    · split
      · exact pending.kickEngine
      · split <;> exact h

theorem serve (h : s.QueueSound) {m : Master} {code : Byte} {ok : Bool} {body : State → Answer}
    (hb : ∀ u : State, u.QueueSound → (body u).state.QueueSound) : (serve m code ok body s).QueueSound :=
  serve_keeps (h.of_frame (by simp [State.renewSession_isOpen])) (hb _) fun _ _ hu => hu.of_frame (by simp)

/-- A request past the session test is answered with the sender's session OPEN (R68). -/
theorem serveOpen (h : s.QueueSound) {m : Master} {code : Byte} {ok : Bool} {rest : State → Answer}
    (hr : ∀ u : State, u.QueueSound → (u.session m).state.isOpen = true → (rest u).state.QueueSound) :
    (Machine.serve m code ok (fun u => u.gated (u.openGate m) (rest u)) s).QueueSound :=
  h.serve fun u hu => State.gated_keeps hu fun gate => hr u hu (State.isOpen_of_openGate gate)

theorem softStart (s : State) : s.softStart.QueueSound := (beginStart s .soft false).setEngine _

theorem takeRestart (h : s.QueueSound) (m : Master) : (takeRestart m s).QueueSound := by
  unfold Machine.takeRestart
  split
  · exact h.serve fun u hu => State.gated_keeps hu fun _ => hu
  · exact softStart _

/-- Every request keeps the laws of the queue and of the owners, from a row of its own or from a frame. -/
theorem takeRequest (h : s.QueueSound) (i : Instr) : (takeRequest i s).QueueSound := by
  cases i with dsimp only [Machine.takeRequest]
  | nop m => exact h.serve fun u hu => State.gated_keeps hu fun _ => hu
  | status m => exact h.serve fun u hu => State.gated_keeps hu fun _ => hu
  | openSession m period => exact h.serve fun u hu => State.gated_keeps hu fun _ => hu.openAnswer m _
  | close m => exact h.serve fun u hu => State.gated_keeps hu fun _ => hu.closeAnswer m
  | keepalive m => exact h.serve fun u hu => State.gated_keeps hu fun _ => hu
  | claim m base size options lease limit => exact h.serveOpen fun u hu opened => hu.claimAnswer m _ opened
  | renew m handle ticks =>
    refine h.serveOpen fun u hu _ => ?_
    unfold renewAnswer
    split
    · exact hu
    · exact State.withHandle_keeps hu fun _ _ hw => hu.renewWindow m _ hw
  | release m handle =>
    exact h.serveOpen fun u hu _ => State.withHandle_keeps hu fun _ _ _ => hu.releaseWindow m _ _
  | downgrade m handle =>
    exact h.serveOpen fun u hu _ => State.withHandle_keeps hu fun _ _ hw => hu.downgradeWindow m hw
  | upgrade m handle =>
    exact h.serveOpen fun u hu _ => State.withHandle_keeps hu fun _ _ hw => hu.upgradeWindow m hw
  | query m handle =>
    exact h.serve fun u hu => State.gated_keeps hu fun _ => State.withHandle_keeps hu fun _ w hw =>
      hu.setWindow_same (w' := { w with touched := false }) hw rfl rfl rfl rfl rfl
  | list m start target => exact h.serve fun u hu => State.gated_keeps hu fun _ => hu.listAnswer m _ _
  | cancel m t => exact h.serveOpen fun u hu _ => hu.cancelAnswer m t
  | ticket m t => exact h.serve fun u hu => State.gated_keeps hu fun _ => hu.ticketAnswer m t
  | stand m handle => exact h.serveOpen fun u hu _ => State.withHandle_keeps hu fun _ _ hw => hu.standAnswer m hw
  | unstand m handle =>
    exact h.serveOpen fun u hu opened => State.withHandle_keeps hu fun _ _ hw => hu.unstandAnswer m hw opened
  | watchSet m base size kinds => exact h.serveOpen fun u hu opened => hu.watchSetAnswer m _ _ _ opened
  | watchClear m id => exact h.serveOpen fun u hu _ => State.withWatch_keeps hu fun k _ _ _ => hu.watchClear k
  | watchRead m id =>
    exact h.serveOpen fun u hu _ => State.withWatch_keeps hu fun _ w hw _ =>
      hu.rewriteWatch (w' := { w with hits := 0 }) hw rfl
  | noticeRead m => exact h.serve fun u hu => State.gated_keeps hu fun _ => hu
  | noticeAck m mask => exact h.serve fun u hu => State.gated_keeps hu fun _ => hu.setNotice m _
  | noticeEnable m mask line => exact h.serve fun u hu => State.gated_keeps hu fun _ => hu.setNotice m _
  | quota m target quota allowance => exact h.serve fun u hu => State.gated_keeps hu fun _ => hu.quotaAnswer _ _ _
  | revoke m handle grace => exact h.serve fun u hu => State.gated_keeps hu fun _ => hu.revokeAnswer _ _
  | evict m target => exact h.serve fun u hu => State.gated_keeps hu fun _ => hu.evictAnswer _
  | restart m => exact h.takeRestart m
  | band m value grace => exact h.serve fun u hu => State.gated_keeps hu fun _ => hu.bandAnswer _ _
  | purge m slot => exact h.serve fun u hu => State.gated_keeps hu fun _ => hu.purgeAnswer _
  | _ => exact h

/-! ### Events -/

theorem takeFrame (h : s.QueueSound) (m : Master) : (s.takeFrame m).QueueSound := by
  simp only [State.takeFrame]
  split
  · exact h.of_frame (by simp)
  · exact h.of_frame (by simp [State.renewSession_isOpen])
  · exact h.of_frame (by simp [State.renewSession_isOpen])
  · exact h.takeRequest _

theorem riseLsel (h : s.QueueSound) (m : Master) (ldi : Clocked) : (s.riseLsel m ldi).QueueSound := by
  unfold State.riseLsel
  split
  · simp only [State.endFrame]
    split
    · exact h.setLink m _
    · split
      · exact h.setLink m _
      · exact (h.setLink m _).takeFrame m
  · exact h.setLink m _

theorem touch (h : s.QueueSound) (v : Verdict) : (s.touch v).QueueSound := by
  unfold State.touch
  split
  · next i =>
    cases hw : (s.record i).window with
    | none => exact h
    | some w => exact h.setWindow_same (w' := { w with touched := true }) hw rfl rfl rfl rfl rfl
  · exact h
  · exact h

theorem hitWatch (h : s.QueueSound) (m : Master) (a : Access) (v : Verdict) (k : WatchIdx) :
    (s.hitWatch m a v k).QueueSound := by
  unfold State.hitWatch
  split
  · exact h
  · next w hw =>
    split
    · exact (h.rewriteWatch (w' := w.afterHit m a v) hw rfl).of_frame (by simp)
    · exact h

theorem applyVerdict (h : s.QueueSound) (a : Access) (v : Verdict) : (s.applyVerdict a v).QueueSound := by
  cases hm : checkMaster a.cmas with
  | none => rwa [s.applyVerdict_noMaster a v hm]
  | some m =>
    have captured : ((s.touch v).captureDenial m a v).QueueSound := (h.touch v).of_frame (by simp)
    rw [s.applyVerdict_master a v hm, State.hitWatches]
    split
    · exact captured
    · exact List.foldlRecOn _ _ captured fun t ht k _ => ht.hitWatch m a v k

theorem strobe (h : s.QueueSound) (a : Access) : (s.strobe a).QueueSound := by
  have seen : (s.setPins { s.pins with cstb := true }).QueueSound := h.of_frame (by simp)
  simp only [State.strobe]
  split
  · exact seen
  · exact (seen.applyVerdict a (s.verdict a)).setCheck _

theorem releaseStrobe (h : s.QueueSound) : s.releaseStrobe.QueueSound := by
  simp only [State.releaseStrobe]
  split <;> exact h.of_frame (by simp)

theorem lapse (h : s.QueueSound) (m : Master) : (s.lapse m).QueueSound := by
  unfold State.lapse
  split
  · exact (h.endSession m .lapsed none .lapsed).of_frame (by simp)
  · exact h

theorem expireLease (h : s.QueueSound) (i : RecIdx) : (s.expireLease i).QueueSound := by
  unfold State.expireLease
  split
  · exact (h.retire _ i).grantScan
  · exact h

theorem warnLease (h : s.QueueSound) (i : RecIdx) : (s.warnLease i).QueueSound := by
  unfold State.warnLease
  split
  · exact h
  · next w hw =>
    split
    · obtain ⟨owner, base, size, mode, standing⟩ := w.warn_eq
      exact (h.setWindow_same hw owner base size mode standing).of_frame (by simp)
    · exact h

theorem endDrain (h : s.QueueSound) (i : RecIdx) : (s.endDrain i).QueueSound := by
  unfold State.endDrain
  split
  · exact h
  · split
    · exact (h.retire _ i).grantScan.kickEngine
    · exact h

theorem expireWait (h : s.QueueSound) (m : Master) (t : Word) : (s.expireWait m t).QueueSound := by
  unfold State.expireWait
  split
  · exact (h.removeWaiters _ _).grantScan
  · exact h

theorem bandErased (h : s.QueueSound) : s.bandErased.QueueSound := by
  unfold State.bandErased
  split
  · exact h.of_frame (by simp)
  all_goals exact h

theorem bandProgrammed (h : s.QueueSound) : s.bandProgrammed.QueueSound := by
  unfold State.bandProgrammed
  split
  · next value _ =>
    have written : ∀ b c : BandControl, ((s.setBand b).setBand c).WaitersSound := fun b c =>
      h.toWaitersSound.of_frame (by simp)
    simp only []
    split
    · exact h.of_frame (by simp)
    · have committed : ((s.setBand { s.band with cell := .valid value }).commitBand value).QueueSound :=
        (State.WaitersSound.retireAll (written _ _) _ _).grantScan
      exact committed.of_frame (by simp)
  all_goals exact h

theorem readBandCell (h : s.QueueSound) : s.readBandCell.QueueSound := by
  unfold State.readBandCell
  split
  · split <;> exact h.of_frame (by simp)
  all_goals exact h

/-- A restored window stands (R150). -/
theorem restoreSlot (h : s.QueueSound) (k : SlotIdx) : (s.restoreSlot k).QueueSound := by
  unfold State.restoreSlot
  split
  · exact h
  · exact h.of_frame (by simp)
  · split
    · exact h.of_frame (by simp)
    · next w hw =>
      split
      · unfold State.restoreWindow
        split
        · exact h
        · next i hi =>
          have issued : (s.issue i w).QueueSound :=
            h.issue ((s.findFree_eq_some i).1 hi).1 fun leased =>
              absurd leased (by simp [(imageWindow_some _ _ _ hw).2])
          exact issued.of_frame (by simp)
      · exact h.of_frame (by simp)

theorem endStarting (h : s.QueueSound) : s.endStarting.QueueSound := by
  simp only [State.endStarting]
  split <;> exact h.of_frame (by simp [State.session])

theorem readSlot (h : s.QueueSound) (maint : Bool) : (s.readSlot maint).QueueSound := by
  unfold State.readSlot
  split
  · next k _ =>
    have seen : (s.setPins { s.pins with maint := maint }).QueueSound := h.of_frame (by simp)
    simp only []
    split
    · exact (seen.restoreSlot k).of_frame (by simp)
    · exact (seen.restoreSlot k).endStarting
  all_goals exact h

theorem endHold (h : s.QueueSound) : s.endHold.QueueSound := by
  simp only [State.endHold]
  split
  · split
    · exact h.setStartUp _
    · exact (h.setStartUp _).setEngine _
  · exact h

theorem assertReset (h : s.QueueSound) : s.assertReset.QueueSound := by
  simp only [State.assertReset]
  split
  · exact beginStart _ _ _
  · exact h.setPins _

theorem releaseReset (h : s.QueueSound) : s.releaseReset.QueueSound := by
  simp only [State.releaseReset]
  split
  · exact (h.setPins _).setEngine _
  · exact h.setPins _

theorem loseSupply (h : s.QueueSound) : s.loseSupply.QueueSound := h.of_frame (by simp [State.loseSupply])

end State.QueueSound

/-! ### Every step -/

/-- Every command keeps the laws of the queue and of the owners. -/
theorem exec_queueSound (c : Instr) {s t : State} (h : s.QueueSound) (hn : exec c s = .next t) : t.QueueSound := by
  cases hr : requestParts c with
  | some parts =>
    rw [exec_request c s (by simp [hr])] at hn
    exact whenPowered_keeps h (fun _ => h.takeRequest c) hn
  | none =>
    cases c with
    | frameEnd link ldi => exact Host.Outcome.next.inj hn ▸ h.riseLsel link ldi
    | checkStrobe cmas cadr cspan cwr =>
      exact whenPowered_keeps (f := (·.strobe ⟨cmas, cadr, cspan, cwr⟩)) h (fun _ => h.strobe _) hn
    | checkRelease => exact whenPowered_keeps h (fun _ => h.releaseStrobe) hn
    | tick => exact whenPowered_keeps h (fun _ => h.of_frame (by simp)) hn
    | lapse m => exact whenPowered_keeps h (fun _ => h.lapse m) hn
    | leaseExpiry i => exact whenPowered_keeps h (fun _ => h.expireLease i) hn
    | leaselowWarning i => exact whenPowered_keeps (f := (·.warnLease i)) h (fun _ => h.warnLease i) hn
    | drainEnd i => exact whenPowered_keeps (f := (·.endDrain i)) h (fun _ => h.endDrain i) hn
    | waitExpiry m ticket => exact whenPowered_keeps h (fun _ => h.expireWait m ticket) hn
    | slotEraseDone => exact whenPowered_keeps h (fun _ => h.of_frame (by simp)) hn
    | slotProgramDone => exact whenPowered_keeps h (fun _ => h.of_frame (by simp)) hn
    | clearDone => exact whenPowered_keeps h (fun _ => h.of_frame (by simp)) hn
    | bandEraseDone => exact whenPowered_keeps h (fun _ => h.bandErased) hn
    | bandProgramDone => exact whenPowered_keeps h (fun _ => h.bandProgrammed) hn
    | bandCellRead => exact whenPowered_keeps h (fun _ => h.readBandCell) hn
    | slotRead maint => exact whenPowered_keeps (f := (·.readSlot maint)) h (fun _ => h.readSlot maint) hn
    | powerStart => exact Host.Outcome.next.inj hn ▸ (State.QueueSound.beginStart s .power true).of_frame (by simp)
    | powerOnHoldEnd => exact whenPowered_keeps h (fun _ => h.endHold) hn
    | lineStart => exact Host.Outcome.next.inj hn ▸ h.assertReset
    | resetRelease => exact Host.Outcome.next.inj hn ▸ h.releaseReset
    | supplyLoss => exact whenPowered_keeps h (fun _ => h.loseSupply) hn
    | lselFall link => exact Host.Outcome.next.inj hn ▸ h.of_frame (by simp)
    | lossOfRetention slot image => exact Host.Outcome.next.inj hn ▸ h.of_frame (by simp)
    | _ => cases hr

/-- Every step keeps the laws of the queue and of the owners. -/
theorem step_queueSound {s t : State} (h : s.QueueSound) (hn : step s = .next t) : t.QueueSound := by
  rcases step_cases hn with rfl | ⟨c, rest, hc⟩
  · exact h
  · exact exec_queueSound c (s := { s with pending := rest }) (h.of_frame ⟨rfl, rfl, rfl, fun _ => ⟨rfl, rfl⟩⟩) hc

end Sys2Proof.Machine

open Sys2Proof Sys2Proof.Machine

/-- Settles O56: a command that takes a window or an entry away, or makes a window READ, ends with the grant scan, which
leaves none grantable; every other leaves what blocks the queue, and a claim joins it only with room and blocked. -/
theorem queueLawKept : Obligations.QueueLawKept := fun _ _ h hn =>
  ⟨(step_queueSound h.queueSound hn).queue, (step_queueSound h.queueSound hn).waits⟩

/-- Settles O57: windows, waiters and watches are made for masters whose session the session test found OPEN, the scan
grants to masters of waiters, and a session end takes away all that needs the session. -/
theorem ownerLawKept : Obligations.OwnerLawKept := fun _ _ h hn => (step_queueSound h.queueSound hn).owners

end

section
/-! PROOFS. CANCEL and TICKET by what the search for a ticket finds (R58 to R61), and the expiries of the window table
and of the wait queue (R57, R78, R79, R91). -/

namespace Sys2Proof.Machine

/-! ### The search for a ticket (R59) -/

/-- An entry is the one a master's ticket names. -/
def Waiter.named (m : Master) (t : Word) (e : Waiter) : Bool := decide (e.master = m) && decide (e.ticket = t)

theorem Waiter.named_iff (m : Master) (t : Word) (e : Waiter) : e.named m t = true ↔ e.master = m ∧ e.ticket = t := by
  simp [Waiter.named]

section
variable (s : State) (m : Master) (t : Word)

theorem State.findTicket_waiting {e : Waiter} (h : s.queue.find? (Waiter.named m t) = some e) :
    s.findTicket m t = .waiting e := by
  unfold Waiter.named at h
  rw [State.findTicket, h]

theorem State.findTicket_granted {i : RecIdx} (waits : s.queue.any (Waiter.named m t) = false)
    (lowest : s.isLowest (fun _ w => w.owner = m ∧ w.originTicket = t) i) : s.findTicket m t = .granted i := by
  have queue : s.queue.find? (fun e => decide (e.master = m) && decide (e.ticket = t)) = none := by
    simpa [List.find?_eq_none, Waiter.named] using waits
  have window : s.lowest (fun _ w => decide (w.owner = m) && decide (w.originTicket = t)) = some i :=
    (s.lowest_eq_some _ i).2 (by simpa using lowest)
  rw [State.findTicket, queue]
  simp only [window]

/-- With no entry and no window of the ticket, the failure list decides, newest record first (R58, R59). -/
theorem State.findTicket_failures (waits : s.queue.any (Waiter.named m t) = false)
    (windows : s.noneInForce (fun _ w => w.owner = m ∧ w.originTicket = t)) : s.findTicket m t =
      ((s.failureList m).reverse.find? fun f => decide (f.ticket = t)).elim .nothing fun f => .failed f.cause := by
  have queue : s.queue.find? (fun e => decide (e.master = m) && decide (e.ticket = t)) = none := by
    simpa [List.find?_eq_none, Waiter.named] using waits
  have window : s.lowest (fun _ w => decide (w.owner = m) && decide (w.originTicket = t)) = none :=
    (s.lowest_eq_none _).2 (by simpa using windows)
  rw [State.findTicket, queue]
  simp only [window]
  cases (s.failureList m).reverse.find? fun f => decide (f.ticket = t) <;> rfl

@[simp] theorem State.renewSession_findTicket : (s.renewSession m).findTicket m t = s.findTicket m t := by
  simp [State.findTicket]

end

/-- The oldest entry that a test finds is the one before which none meets it. -/
theorem find?_of_split {α : Type} {p : α → Bool} {l before after : List α} {a : α} (split : l = before ++ a :: after)
    (ha : p a = true) (first : before.any p = false) : l.find? p = some a :=
  List.find?_eq_some_iff_append.2 ⟨ha, before, after, split, by simpa using first⟩

/-- The position of an entry is one more than the number of entries older than it (R61). -/
theorem State.position_of_split {s : State} {older younger : List Waiter} {e : Waiter}
    (split : s.queue = older ++ e :: younger) (first : older.any (Waiter.named e.master e.ticket) = false) :
    s.position e = older.length + 1 := by
  have before : older.findIdx (Waiter.named e.master e.ticket) = older.length :=
    List.findIdx_eq_length.2 (by simpa using first)
  have found : s.queue.findIdx (Waiter.named e.master e.ticket) = older.length := by
    rw [split, List.findIdx_append, before, if_neg (lt_irrefl _), List.findIdx_cons]
    simp [Waiter.named]
  exact congrArg (· + 1) found

/-! ### What CANCEL and TICKET are answered -/

section
variable {s : State} {m : Master} {t : Word} {u : State} {st : Status} {results : List Word}

/-- CANCEL is answered by its search once the tests pass (R60). -/
theorem answered_cancel (ho : s.takesOpen m) (ht : t ≠ 0)
    (h : cancelAnswer m t (s.renewSession m) = ⟨u, st, results⟩) : answered (.cancel m t) s m 0x18 u st results := by
  refine (whenPowered_next _ s ho.1.1).trans ?_
  rw [takeCancel, ticketFormatOk, bne_iff_ne.2 ht, serve_gated _ _ (·.openGate m) _ _ (renewed_openGate ho), h]
  rfl

/-- TICKET is answered by its search in every session state (R59, R61). -/
theorem answered_ticket (hs : s.takes m) (ht : t ≠ 0)
    (h : ticketAnswer m t (s.renewSession m) = ⟨u, st, results⟩) : answered (.ticket m t) s m 0x19 u st results := by
  refine (whenPowered_next _ s hs.1).trans ?_
  rw [takeTicket, ticketFormatOk, bne_iff_ne.2 ht, serve_gated _ _ (·.partGate m) _ _ (renewed_partGate hs), h]
  rfl

/-- Both requests are answered alike for a ticket that waits no more (R60, R61). -/
theorem answered_found (hs : s.takes m) (ht : t ≠ 0) {found : TicketFound} (search : s.findTicket m t = found)
    (gone : found = .nothing ∧ st = .gone ∧ results = [0] ∨
      (∃ cause, found = .failed cause ∧ st = .gone ∧ results = [BitVec.ofNat 16 cause.code]) ∨
      ∃ i, found = .granted i ∧ st = .granted ∧ results = [(s.record i).generation ++ BitVec.ofNat 8 i.val]) :
    ((s.session m).state.isOpen = true → answered (.cancel m t) s m 0x18 (s.renewSession m) st results) ∧
      answered (.ticket m t) s m 0x19 (s.renewSession m) st results := by
  have renewed : (s.renewSession m).findTicket m t = found := by rw [State.renewSession_findTicket, search]
  have handle : ∀ i, (s.renewSession m).handle i = (s.record i).generation ++ BitVec.ofNat 8 i.val := fun i => by
    rw [State.handle, State.renewSession_record, handleWord_fields]
  have answers : cancelAnswer m t (s.renewSession m) = ⟨s.renewSession m, st, results⟩ ∧
      ticketAnswer m t (s.renewSession m) = ⟨s.renewSession m, st, results⟩ := by
    rw [cancelAnswer, ticketAnswer, renewed]
    obtain ⟨rfl, rfl, rfl⟩ | ⟨cause, rfl, rfl, rfl⟩ | ⟨i, rfl, rfl, rfl⟩ := gone
    · exact ⟨rfl, rfl⟩
    · exact ⟨rfl, rfl⟩
    · simp only [handle, and_self]
  exact ⟨fun opened => answered_cancel ⟨hs, opened⟩ ht answers.1, answered_ticket hs ht answers.2⟩

end

/-! ### Deadlines (R77 to R79, R91) -/

section
variable (s : State) (w : Window)

theorem State.reached_iff (t : Tick) : s.reached t = true ↔ s.clock = some t := by simp [State.reached]

theorem State.leaseDue_timed {l : Lease} (hk : w.kind = .timed l) :
    s.leaseDue w = true ↔ s.clock = some l.deadline := by
  rw [State.leaseDue, hk]
  exact s.reached_iff _

theorem State.leaseDue_untimed (hk : ∀ l, w.kind ≠ .timed l) : s.leaseDue w = false := by
  cases h : w.kind with
  | timed l => exact absurd h (hk l)
  | session | standing _ => rw [State.leaseDue, h]

/-- A warning is due from the margin on, with at least one tick and fewer than the lease's length remaining (R79). -/
theorem State.warningDue_timed {l : Lease} (hk : w.kind = .timed l) : s.warningDue w = true ↔
    s.clock ≠ none ∧ w.drain = none ∧ l.warned = false ∧ 1 ≤ s.ticksTo l.deadline ∧
      s.ticksTo l.deadline ≤ max 1 (l.length / 8) ∧ s.ticksTo l.deadline < l.length := by
  rw [State.warningDue, hk]
  simp only [Bool.and_eq_true, decide_eq_true_eq, Option.isSome_iff_ne_none, Window.isLive, Option.isNone_iff_eq_none,
    Bool.not_eq_true', and_assoc]
  rfl

theorem State.warningDue_untimed (hk : ∀ l, w.kind ≠ .timed l) : s.warningDue w = false := by
  cases h : w.kind with
  | timed l => exact absurd h (hk l)
  | session | standing _ => rw [State.warningDue, h]

end

section
variable {s : State} (i : RecIdx) {w : Window}

theorem State.expireLease_due (hw : (s.record i).window = some w) (due : s.leaseDue w = true) :
    s.expireLease i = (s.retire .expired i).grantScan := by
  rw [State.expireLease, hw]
  exact if_pos due

theorem State.expireLease_idle (idle : ∀ w, (s.record i).window = some w → s.leaseDue w = false) :
    s.expireLease i = s := by
  refine if_neg fun due => ?_
  obtain ⟨w, hw, hd⟩ := Option.any_eq_true _ _ |>.1 due
  rw [idle w hw] at hd
  cases hd

theorem State.warnLease_due (hw : (s.record i).window = some w) (due : s.warningDue w = true) :
    s.warnLease i = (s.setWindow i w.warn).raise w.owner .leaselow := by
  simp only [State.warnLease, hw, due, if_true]

theorem State.warnLease_idle (idle : ∀ w, (s.record i).window = some w → s.warningDue w = false) :
    s.warnLease i = s := by
  cases hw : (s.record i).window with
  | none => simp only [State.warnLease, hw]
  | some w => simp only [State.warnLease, hw, idle w hw, Bool.false_eq_true, if_false]

theorem State.endDrain_due (hw : (s.record i).window = some w) {d : Drain} (hd : w.drain = some d)
    (due : s.clock = some d.deadline) :
    s.endDrain i = ((s.retire d.cause.retireCause i).grantScan).kickEngine := by
  simp only [State.endDrain, hw, Option.bind_some, hd, (s.reached_iff _).2 due, if_true]

theorem State.endDrain_idle (idle : ∀ w d, (s.record i).window = some w → w.drain = some d →
    s.clock ≠ some d.deadline) : s.endDrain i = s := by
  unfold State.endDrain
  split
  · rfl
  · next d hd =>
    obtain ⟨w, hw, hd⟩ := Option.bind_eq_some_iff.1 hd
    exact if_neg (mt (s.reached_iff _).1 (idle w d hw hd))

end

/-! ### The wait-limit expiry (R57) -/

section
variable {s : State} {m : Master} {t : Word}

theorem State.waitDue_iff (s : State) (e : Waiter) :
    s.waitDue e = true ↔ ∃ d, e.deadline = some d ∧ s.clock = some d := by
  simp only [State.waitDue, Option.any_eq_true, s.reached_iff]

/-- An entry of a master's ticket has reached its wait deadline. -/
def State.timesOut (s : State) (m : Master) (t : Word) (e : Waiter) : Bool := e.named m t && s.waitDue e

theorem State.expireWait_eq (s : State) (m : Master) (t : Word) : s.expireWait m t =
    if s.queue.any (s.timesOut m t) then (s.removeWaiters (some .timeout) (s.timesOut m t)).grantScan else s := rfl

/-- An entry that is gone, or not due, takes nothing (R57, R77). -/
theorem State.expireWait_idle (idle : ∀ e ∈ s.queue, e.master = m → e.ticket = t → s.waitDue e = false) :
    s.expireWait m t = s := by
  rw [s.expireWait_eq, if_neg]
  simp only [List.any_eq_true, State.timesOut, Bool.and_eq_true, Waiter.named_iff]
  rintro ⟨e, he, ⟨master, ticket⟩, due⟩
  rw [idle e he master ticket] at due
  cases due

/-- When one entry alone of a list meets a test, the test picks it out and leaves the others in order. -/
theorem filter_of_only {α : Type} {p : α → Bool} {l before after : List α} {a : α} (split : l = before ++ a :: after)
    (own : p a = true) (others : ∀ x ∈ before ++ after, p x = false) :
    l.filter p = [a] ∧ l.filter (fun x => !p x) = before ++ after := by
  rw [split, List.filter_append, List.filter_cons_of_pos own, List.filter_append,
    List.filter_cons_of_neg (by simp [own]), ← List.filter_append, List.filter_eq_self,
    List.filter_eq_nil_iff.2 fun x hx => by simp [others x (List.mem_append_left _ hx)],
    List.filter_eq_nil_iff.2 fun x hx => by simp [others x (List.mem_append_right _ hx)]]
  exact ⟨rfl, fun x hx => by simp [others x hx]⟩

/-- The only entry of a ticket is removed on its deadline with WAITFAIL TIMEOUT, and the scan runs (R57). -/
theorem State.expireWait_due {e : Waiter} {older younger : List Waiter} (split : s.queue = older ++ e :: younger)
    (only : ∀ o ∈ older ++ younger, ¬ (o.master = e.master ∧ o.ticket = e.ticket)) (due : s.waitDue e = true) :
    s.expireWait e.master e.ticket = ((s.setQueue (older ++ younger)).waitFail .timeout e).grantScan := by
  have own : s.timesOut e.master e.ticket e = true := by simp [State.timesOut, Waiter.named, due]
  have others : ∀ o ∈ older ++ younger, s.timesOut e.master e.ticket o = false := fun o ho => by
    rw [State.timesOut, Bool.eq_false_iff.2 (mt (o.named_iff _ _).1 (only o ho)), Bool.false_and]
  obtain ⟨gone, left⟩ := filter_of_only split own others
  have some_due : s.queue.any (s.timesOut e.master e.ticket) = true := by simp [split, own]
  rw [s.expireWait_eq, if_pos some_due]
  simp only [State.removeWaiters, gone, left, List.foldl_cons, List.foldl_nil]

end

end Sys2Proof.Machine

open Sys2Proof Sys2Proof.Machine

/-- Settles O24: the hypotheses say what `State.findTicket` finds. -/
theorem ticketRequests : Obligations.TicketRequests := by
  refine ⟨rfl, fun m t s hs ht => ?_⟩
  intro r isOpen mine granted
  refine ⟨fun older e younger split own first => ?_, fun waits => ⟨fun i lowest => ?_, fun windows =>
    ⟨fun old f new split ticket newest => ?_, fun none_failed => ?_⟩⟩⟩
  · have found : r.findTicket m t = .waiting e := by
      rw [State.renewSession_findTicket]
      exact s.findTicket_waiting m t (find?_of_split split own first)
    obtain ⟨rfl, rfl⟩ := (e.named_iff m t).1 own
    have place : (s.renewSession e.master).position e = older.length + 1 :=
      State.position_of_split (by simpa using split) first
    refine ⟨fun opened => answered_cancel ⟨hs, opened⟩ ht ?_, answered_ticket hs ht ?_⟩
    · rw [cancelAnswer, found]
      simp [State.ok, State.removeWaiters, r, mine]
    · have remaining : e.deadline.elim 0 (s.renewSession e.master).ticksTo = e.deadline.elim 0 s.ticksTo := by
        cases e.deadline <;> simp
      rw [ticketAnswer, found]
      simp only [place, remaining, word]
      rfl
  · exact answered_found hs ht (s.findTicket_granted m t waits lowest) (.inr (.inr ⟨i, rfl, rfl, rfl⟩))
  · have newest_found : (s.failureList m).reverse.find? (fun f => decide (f.ticket = t)) = some f := by
      refine find?_of_split (before := new.reverse) (after := old.reverse) (by simp [split]) (by simpa using ticket) ?_
      simpa using newest
    refine answered_found hs ht ((s.findTicket_failures m t waits windows).trans ?_)
      (.inr (.inl ⟨f.cause, rfl, rfl, rfl⟩))
    rw [newest_found]
    rfl
  · have none_found : (s.failureList m).reverse.find? (fun f => decide (f.ticket = t)) = none := by
      simpa [List.find?_eq_none] using none_failed
    refine answered_found hs ht ((s.findTicket_failures m t waits windows).trans ?_) (.inl ⟨rfl, rfl, rfl⟩)
    rw [none_found]
    rfl

/-- Settles O51, from the due and the idle case of each expiry. -/
theorem deadlineExpiries : Obligations.DeadlineExpiries := by
  have run : ∀ {f : State → State} {s t : State}, s.pins.supply = true → f s = t → whenPowered f s = .next t :=
    fun supply h => (whenPowered_next _ _ supply).trans (congrArg _ h)
  refine ⟨fun s i w l supply hw hk => ?_, fun s i w d supply hw hd => ⟨fun due => ?_, fun idle => ?_⟩,
    fun s i supply => ⟨fun untimed => ⟨?_, ?_⟩, fun live => ?_⟩, fun s m ticket supply gone => ?_,
    fun s e older younger supply split only => ⟨fun d hd due => ?_, fun idle => ?_⟩⟩
  · have held : ∀ {p : Window → Bool}, p w = false → ∀ v, (s.record i).window = some v → p v = false :=
      fun hp v hv => Option.some.inj (hw.symm.trans hv) ▸ hp
    refine ⟨fun due => ?_, fun idle => ?_, ?_⟩
    · exact run supply (State.expireLease_due i hw ((s.leaseDue_timed w hk).2 due))
    · exact run supply (State.expireLease_idle i (held (Bool.eq_false_iff.2 (mt (s.leaseDue_timed w hk).1 idle))))
    · intro remaining condition
      refine ⟨fun warned => ?_, fun idle => ?_⟩
      · have marked : w.warn = { w with kind := .timed { l with warned := true } } := by rw [Window.warn, hk]
        have due := (s.warningDue_timed w hk).2 warned
        refine run (f := (·.warnLease i)) supply ((State.warnLease_due i hw due).trans ?_)
        rw [marked]
        rfl
      · exact run (f := (·.warnLease i)) supply
          (State.warnLease_idle i (held (Bool.eq_false_iff.2 (mt (s.warningDue_timed w hk).1 idle))))
  · refine run (f := (·.endDrain i)) supply ((State.endDrain_due i hw hd due).trans ?_)
    cases d.cause <;> rfl
  · refine run (f := (·.endDrain i)) supply (State.endDrain_idle i fun v x hv hx => ?_)
    obtain rfl := Option.some.inj (hw.symm.trans hv)
    exact Option.some.inj (hd.symm.trans hx) ▸ idle
  · exact run supply (State.expireLease_idle i fun w hw => s.leaseDue_untimed w fun l => untimed w l hw)
  · exact run (f := (·.warnLease i)) supply
      (State.warnLease_idle i fun w hw => s.warningDue_untimed w fun l => untimed w l hw)
  · refine run (f := (·.endDrain i)) supply (State.endDrain_idle i fun w d hw hd => ?_)
    rw [live w hw] at hd
    cases hd
  · exact run supply (State.expireWait_idle fun e he master named => absurd ⟨master, named⟩ (gone e he))
  · exact run supply (State.expireWait_due split only ((s.waitDue_iff e).2 ⟨d, hd, due⟩))
  · refine run supply (State.expireWait_idle fun x hx master named => ?_)
    rw [split, List.mem_append, List.mem_cons] at hx
    obtain rfl : x = e := by
      by_contra other
      exact only x (List.mem_append.2 (hx.imp_right fun h => h.resolve_left other)) ⟨master, named⟩
    refine Bool.eq_false_iff.2 fun due => ?_
    obtain ⟨d, hd, clock⟩ := (s.waitDue_iff x).1 due
    exact idle d hd clock

end

section
/-! PROOFS. What a widening leaves of the windows, the notices, the queue and the failure lists (R140, R141). -/

namespace Sys2Proof.Machine

/-! ### Flags are raised and not cleared (R116) -/

/-- Every flag set in one state is set in another. -/
def State.FlagsKept (s t : State) : Prop := ∀ m f, (s.notice m).has f = true → (t.notice m).has f = true

theorem Flag.mask_bit (f : Flag) : f.mask.getLsbD f.bit = true := by cases f <;> rfl

theorem State.raise_has (s : State) (m : Master) (f : Flag) : ((s.raise m f).notice m).has f = true := by
  simp [State.raise_notice, Notice.has, f.mask_bit]

namespace State.FlagsKept

theorem refl (s : State) : s.FlagsKept s := fun _ _ h => h

theorem trans {s t u : State} (h : s.FlagsKept t) (h' : t.FlagsKept u) : s.FlagsKept u :=
  fun m f hf => h' m f (h m f hf)

theorem of_notices {s t : State} (h : t.notices = s.notices) : s.FlagsKept t := fun m f hf => by
  rwa [State.notice, h]

theorem foldl {α : Type} {f : State → α → State} (step : ∀ (t : State) a, t.FlagsKept (f t a)) (l : List α)
    (s : State) : s.FlagsKept (l.foldl f s) :=
  List.foldlRecOn _ _ (refl s) fun t ht a _ => ht.trans (step t a)

theorem raise (s : State) (m : Master) (f : Flag) : s.FlagsKept (s.raise m f) := fun k g hg => by
  rw [State.raise_notice]
  split
  · next same =>
    subst same
    rw [Notice.has] at hg ⊢
    simp [hg]
  · exact hg

theorem waitFail (s : State) (c : FailCause) (e : Waiter) : s.FlagsKept (s.waitFail c e) :=
  (of_notices (by simp)).trans (raise _ _ _)

theorem removeWaiters (s : State) (c : FailCause) (p : Waiter → Bool) : s.FlagsKept (s.removeWaiters (some c) p) :=
  (of_notices (by simp)).trans
    (foldl (fun t e => waitFail t c e) _ (s.setQueue (s.queue.filter fun e => !p e)))

theorem grantScan (s : State) : s.FlagsKept s.grantScan :=
  s.grantScan_induction (refl s) (fun u q hu => hu.trans (of_notices (by simp)))
    (fun u c e _ hu => hu.trans (waitFail u c e))
    fun u i e _ hu _ => (hu.trans (of_notices (by simp))).trans (raise _ _ _)

theorem retire (s : State) (cause : RetireCause) (i : RecIdx) : s.FlagsKept (s.retire cause i) := by
  cases hw : (s.record i).window with
  | none => rw [s.retire_free cause i hw]; exact refl s
  | some w =>
    have raised : s.FlagsKept (s.raiseIf w.owner cause.notice) := by
      cases cause.notice with
      | none => exact refl s
      | some f => exact raise s _ f
    exact raised.trans (of_notices (State.retire_notices s cause hw))

theorem drainWindow (s : State) (cause : DrainCause) (grace : Nat) (i : RecIdx) :
    s.FlagsKept (s.drainWindow cause grace i) := by
  unfold State.drainWindow
  split
  · exact refl s
  · split
    · exact retire s _ i
    · exact (of_notices (by simp)).trans (raise _ _ _)

end State.FlagsKept

/-- Every waiter removed with a cause finds WAITFAIL raised (R57, R58). -/
theorem State.removeWaiters_waitfail (s : State) (c : FailCause) {p : Waiter → Bool} {e : Waiter} (he : e ∈ s.queue)
    (hp : p e = true) : ((s.removeWaiters (some c) p).notice e.master).has .waitfail = true := by
  obtain ⟨before, after, split⟩ := List.append_of_mem (List.mem_filter.2 ⟨he, hp⟩)
  simp only [State.removeWaiters, split, List.foldl_append, List.foldl_cons]
  exact State.FlagsKept.foldl (fun t e => .waitFail t c e) after _ _ _ (State.raise_has _ _ _)

/-! ### The windows a widening reaches (R140) -/

theorem State.drainWindow_record_ne (s : State) (cause : DrainCause) (grace : Nat) {i j : RecIdx} (h : i ≠ j) :
    (s.drainWindow cause grace i).record j = s.record j := by
  unfold State.drainWindow
  split
  · rfl
  · split
    · exact s.retire_record_ne _ i j h
    · rw [State.raise_record, State.setWindow_record, if_neg h]

theorem foldl_drainWindow_record (s : State) (cause : DrainCause) (grace : Nat) {l : List RecIdx} {j : RecIdx}
    (h : j ∉ l) : (l.foldl (fun t i => t.drainWindow cause grace i) s).record j = s.record j :=
  List.foldlRecOn (motive := fun t : State => t.record j = s.record j) _ _ rfl fun t ht _ hi =>
    (t.drainWindow_record_ne cause grace (ne_of_mem_of_not_mem hi h)).trans ht

theorem State.drainOf_congr {s t : State} (clock : t.clock = s.clock) (w : Window) (cause : DrainCause) (grace : Nat) :
    t.drainOf w cause grace = s.drainOf w cause grace := by
  cases hd : w.drain <;> simp [State.drainOf, hd, State.earlier, State.ticksTo, State.after, State.now, clock]

theorem State.bandTaken_nodup (s : State) (value : Nat) : (s.bandTaken value).Nodup :=
  (List.nodup_finRange _).filter _

theorem State.mem_bandTaken (s : State) (value : Nat) (i : RecIdx) : i ∈ s.bandTaken value ↔
    ∃ w, (s.record i).window = some w ∧ w.owner ≠ 0 ∧ w.base < 64 * value := by
  simp [State.bandTaken, State.mem_recordsWhere, bandTakes, bandCovers]

theorem State.bandDrained_record_of_notMem {s : State} {value : Nat} (grace : Nat) {i : RecIdx}
    (h : i ∉ s.bandTaken value) : (s.bandDrained value grace).record i = s.record i :=
  foldl_drainWindow_record s .banded grace h

/-- Each window of the widening is reached once, with its record as it was; what the drain leaves of the record and of
the flags is left at the end. -/
theorem State.bandDrained_reaches {s : State} {value : Nat} (grace : Nat) {i : RecIdx} (h : i ∈ s.bandTaken value) :
    ∃ u : State, u.record i = s.record i ∧ u.clock = s.clock ∧
      (s.bandDrained value grace).record i = (u.drainWindow .banded grace i).record i ∧
      (u.drainWindow .banded grace i).FlagsKept (s.bandDrained value grace) := by
  obtain ⟨before, after, split⟩ := List.append_of_mem h
  have once := s.bandTaken_nodup value
  rw [split, List.nodup_middle, List.nodup_cons, List.mem_append, not_or] at once
  obtain ⟨⟨earlier, later⟩, -⟩ := once
  refine ⟨before.foldl (fun t j => t.drainWindow .banded grace j) s, foldl_drainWindow_record s _ _ earlier,
    foldl_drainWindow_clock s _ _ _, ?_⟩
  rw [State.bandDrained, split, List.foldl_append, List.foldl_cons]
  exact ⟨foldl_drainWindow_record _ _ _ later, State.FlagsKept.foldl (fun t j => .drainWindow t .banded grace j) _ _⟩

section
variable {s : State} {value : Nat} {i : RecIdx} {w : Window}

/-- With grace 0 a window over the new value is retired as BANDED and its owner noticed (R140). -/
theorem State.bandDrained_retires (hw : (s.record i).window = some w) (h : i ∈ s.bandTaken value) :
    (s.bandDrained value 0).record i = ⟨(s.record i).generation, .free (some .banded)⟩ ∧
      ((s.bandDrained value 0).notice w.owner).has .retired = true := by
  obtain ⟨u, same, -, record, kept⟩ := State.bandDrained_reaches 0 h
  have held : (u.record i).window = some w := by rw [same, hw]
  rw [u.drainWindow_zero _ i w held] at record kept
  refine ⟨by rw [record, u.retire_record _ i w held, if_pos rfl, same]; rfl, kept _ _ ?_⟩
  rw [State.notice, State.retire_notices u _ held]
  exact State.raise_has u _ _

/-- With a grace of 1 or more a window over the new value drains and its owner is noticed (R140). -/
theorem State.bandDrained_drains {grace : Nat} (hw : (s.record i).window = some w) (h : i ∈ s.bandTaken value)
    (hg : grace ≠ 0) : (s.bandDrained value grace).record i =
      ⟨(s.record i).generation, .held { w with drain := some (s.drainOf w .banded grace) }⟩ ∧
      ((s.bandDrained value grace).notice w.owner).has .revoking = true := by
  obtain ⟨u, same, clock, record, kept⟩ := State.bandDrained_reaches grace h
  rw [u.drainWindow_grace _ grace i w (by rw [same, hw]) hg, State.drainOf_congr clock, same] at record kept
  refine ⟨by simpa using record, kept _ _ (State.raise_has _ _ _)⟩

end

/-! ### What the removal and the scan leave of it (R141) -/

section
variable (s : State) (value grace : Nat)

theorem State.flagsKept_widen_of_removed : (s.bandRemoved value grace).FlagsKept (s.widen value grace) := by
  obtain scanned | ⟨left, -⟩ := s.widen_cases value grace
  · exact scanned ▸ .grantScan _
  · exact left ▸ .refl _

theorem State.flagsKept_widen : (s.bandDrained value grace).FlagsKept (s.widen value grace) :=
  (State.FlagsKept.removeWaiters _ .banded _).trans (s.flagsKept_widen_of_removed value grace)

theorem State.bandRemoved_record (i : RecIdx) :
    (s.bandRemoved value grace).record i = (s.bandDrained value grace).record i :=
  State.removeWaiters_record _ _ _ i

theorem State.bandRemoved_clock : (s.bandRemoved value grace).clock = s.clock :=
  (State.removeWaiters_clock _ _ _).trans (foldl_drainWindow_clock s _ _ _)

variable {s value grace} in
theorem State.widen_record_held {i : RecIdx} {r : WindowRecord} (drained : (s.bandDrained value grace).record i = r)
    (held : r.window ≠ none) : (s.widen value grace).record i = r := by
  have removed := (s.bandRemoved_record value grace i).trans drained
  obtain scanned | ⟨left, -⟩ := s.widen_cases value grace
  · rw [scanned, State.grantScan_record _ i (by rwa [removed]), removed]
  · rw [left, removed]

theorem State.widen_queue : (s.widen value grace).queue.Sublist (s.queue.filter fun e => !bandTakesWaiter value e) := by
  rw [← s.bandRemoved_queue value grace]
  obtain scanned | ⟨left, -⟩ := s.widen_cases value grace
  · exact scanned ▸ State.grantScan_queue _
  · exact left ▸ .refl _

variable {s value grace} in
/-- A retired record is left FREE, or issued by the scan to an entry of the queue (R54). -/
theorem State.widen_record_free {i : RecIdx} {r : WindowRecord} (drained : (s.bandDrained value grace).record i = r)
    (free : r.window = none) : (s.widen value grace).record i = r ∨
      ∃ e ∈ s.queue, (s.widen value grace).record i = ⟨nextGeneration r.generation, .held (s.grantedWindow e)⟩ := by
  have removed := (s.bandRemoved_record value grace i).trans drained
  obtain scanned | ⟨left, -⟩ := s.widen_cases value grace
  · rw [scanned]
    rcases State.grantScan_record_free _ i (by rw [removed, free]) with same | ⟨e, he, issued⟩
    · exact .inl (same.trans removed)
    · rw [s.bandRemoved_queue] at he
      rw [removed, State.grantedWindow_congr (s.bandRemoved_clock value grace)] at issued
      exact .inr ⟨e, (List.mem_filter.1 he).1, issued⟩
  · exact .inl (left ▸ removed)

/-- The removed waiters of a master are recorded first, in arrival order, then those the scan finds no room for. -/
theorem State.widen_failureList (m : Master) : ∃ bound : List Failure, (s.widen value grace).failureList m =
      (((s.queue.filter fun e => bandTakesWaiter value e && decide (e.master = m)).map fun e =>
        Failure.mk e.ticket .banded) ++ bound).foldl newestFour (s.failureList m) ∧
      ∀ f ∈ bound, (f.cause = .quota ∨ f.cause = .limit) ∧
        ∃ e ∈ s.queue, e.master = m ∧ e.ticket = f.ticket ∧ bandTakesWaiter value e = false := by
  have drained : (s.bandDrained value grace).failureList m = s.failureList m := by
    rw [State.failureList, State.bandDrained, foldl_drainWindow_failures]
    rfl
  have removed := (s.bandDrained value grace).removeWaiters_failureList .banded (bandTakesWaiter value) m
  rw [s.bandDrained_queue, drained] at removed
  obtain scanned | ⟨left, -⟩ := s.widen_cases value grace
  · obtain ⟨bound, list, causes⟩ :=
      scanFrom_failureList [] (s.bandRemoved value grace).queue (s.bandRemoved value grace) m
    refine ⟨bound, ?_, fun f hf => ?_⟩
    · rw [scanned, List.foldl_append, ← removed]
      exact list
    · obtain ⟨cause, e, he, master, ticket⟩ := causes f hf
      rw [s.bandRemoved_queue, List.mem_filter, Bool.not_eq_true'] at he
      exact ⟨cause, e, he.1, master, ticket, he.2⟩
  · refine ⟨[], ?_, nofun⟩
    rw [left, List.append_nil]
    exact removed

/-- A drain marks no slot: with a grace of 1 or more the slots are as they were (R140). -/
theorem State.widen_slots (hg : grace ≠ 0) : (s.widen value grace).slots = s.slots := by
  have drained : (s.bandDrained value grace).slots = s.slots :=
    List.foldlRecOn (motive := fun t : State => t.slots = s.slots) _ _ rfl fun t ht i _ => by
      rw [← ht]
      cases hw : (t.record i).window with
      | none => simp only [State.drainWindow, hw]
      | some w => simp [t.drainWindow_grace .banded grace i w hw hg]
  have removed : (s.bandRemoved value grace).slots = s.slots := (State.removeWaiters_slots _ _ _).trans drained
  obtain scanned | ⟨left, -⟩ := s.widen_cases value grace
  · rw [scanned, State.grantScan_slots, removed]
  · rw [left, removed]

end

theorem bandTakesWaiter_eq_false (value : Nat) (e : Waiter) :
    bandTakesWaiter value e = false ↔ e.master = 0 ∨ 64 * value ≤ e.base := by
  simp [bandTakesWaiter, bandCovers, or_iff_not_imp_left]

end Sys2Proof.Machine

open Sys2Proof Sys2Proof.Machine

/-- Settles O31: each window over the new value is reached once by the drain, and what the drain and the removal of the
waiters leave, the scan keeps or grants. -/
theorem wideningEffect : Obligations.WideningEffect := by
  intro s v grace t
  refine ⟨fun i w hw outside => ?_, fun i w hw owner inside => ⟨?_, fun hg => ?_⟩, ?_, fun e he => ?_,
    fun e he master inside => ?_, fun m => ?_, s.widen_waitLaw v grace, fun hg => s.widen_slots v grace (by omega),
    by simp [t], by simp [t], by simp [t], by simp [t], by simp [t], by simp [t], by simp [t], by simp [t], by simp [t]⟩
  · refine State.widen_record_held (State.bandDrained_record_of_notMem grace fun taken => ?_) (by simp [hw])
    obtain ⟨x, hx, owner, inside⟩ := (s.mem_bandTaken v i).1 taken
    obtain rfl := Option.some.inj (hw.symm.trans hx)
    exact outside.elim owner (by omega)
  · rintro rfl
    obtain ⟨record, retired⟩ := State.bandDrained_retires hw ((s.mem_bandTaken v i).2 ⟨w, hw, owner, inside⟩)
    exact ⟨s.flagsKept_widen v 0 _ _ retired, State.widen_record_free record rfl⟩
  · obtain ⟨record, revoking⟩ :=
      State.bandDrained_drains (grace := grace) hw ((s.mem_bandTaken v i).2 ⟨w, hw, owner, inside⟩) (by omega)
    have drained := State.widen_record_held record (by simp [WindowRecord.window])
    refine ⟨s.flagsKept_widen v grace _ _ revoking, fun live => ?_, fun d hd => ?_⟩
    · rw [drained, State.drainOf, live]
    · rw [drained, State.drainOf, hd]
      rfl
  · exact (s.widen_queue v grace).trans List.filter_sublist
  · have left := (List.mem_filter.1 ((s.widen_queue v grace).subset he)).2
    exact (bandTakesWaiter_eq_false v e).1 (by simpa using left)
  · have taken : bandTakesWaiter v e = true := by simp [bandTakesWaiter, bandCovers, master, inside]
    refine s.flagsKept_widen_of_removed v grace _ _ (State.removeWaiters_waitfail _ .banded ?_ taken)
    rwa [s.bandDrained_queue]
  · intro banded
    have same : ∀ e, banded e = (bandTakesWaiter v e && decide (e.master = m)) := fun e => by
      by_cases hm : e.master = m
      · subst hm
        simp [banded, bandTakesWaiter, bandCovers]
      · simp [banded, hm]
    obtain ⟨bound, list, causes⟩ := s.widen_failureList v grace m
    simp only [← same] at list
    refine ⟨bound, list, fun f hf => ?_⟩
    obtain ⟨cause, e, he, master, ticket, stays⟩ := causes f hf
    exact ⟨cause, e, he, master, ticket, by rw [same, stays, Bool.false_and]⟩

end

section
/-! PROOFS. What an operation that neither ends nor begins a session does with time: the clock, start-up control and the
sessions' states are as they were, and deadlines that were ahead are still ahead (R76, R77). -/

namespace Sys2Proof.Machine

/-! ### Windows and waiters on time -/

/-- A window's lease and drain lie no further ahead than a request can set them (R76). -/
def Window.OnTime (s : State) (w : Window) : Prop := w.kind.timely s = true ∧ ∀ d ∈ w.drain, s.ahead d.deadline

/-- A waiter's deadline lies no further ahead than a claim can set it, and its lease is one of a claim (R31, R76). -/
def Waiter.OnTime (s : State) (e : Waiter) : Prop :=
  e.deadline.all (fun d => decide (s.ahead d)) = true ∧ ∀ n ∈ e.length, 1 ≤ n ∧ n ≤ 60000

/-- The windows in force and the waiters are on time. -/
structure State.OnTime (s : State) : Prop where
  windows : ∀ i : RecIdx, ∀ w ∈ (s.record i).window, w.OnTime s
  waiters : ∀ e ∈ s.queue, e.OnTime s

theorem State.deadlineLaw_iff (s : State) :
    s.deadlineLaw ↔ (∀ m, (s.session m).state.timely s = true) ∧ s.OnTime :=
  ⟨fun ⟨sessions, windows, waiters⟩ => ⟨sessions, windows, waiters⟩,
    fun ⟨sessions, windows, waiters⟩ => ⟨sessions, windows, waiters⟩⟩

section
variable {s t : State}

theorem State.ticksTo_congr (now : t.now = s.now) (d : Tick) : t.ticksTo d = s.ticksTo d := by
  rw [State.ticksTo, State.ticksTo, now]

theorem LeaseKind.timely_congr (now : t.now = s.now) (k : LeaseKind) : k.timely t = k.timely s := by
  cases k <;> simp only [LeaseKind.timely, State.ahead, State.ticksTo_congr now]

theorem SessionState.timely_congr (now : t.now = s.now) (x : SessionState) : x.timely t = x.timely s := by
  cases x <;> simp only [SessionState.timely, State.ahead, State.ticksTo_congr now]

theorem Window.onTime_congr (now : t.now = s.now) (w : Window) : w.OnTime t ↔ w.OnTime s := by
  simp only [Window.OnTime, LeaseKind.timely_congr now, State.ahead, State.ticksTo_congr now]

theorem Waiter.onTime_congr (now : t.now = s.now) (e : Waiter) : e.OnTime t ↔ e.OnTime s := by
  simp only [Waiter.OnTime, State.ahead, State.ticksTo_congr now]

end

/-- The tick a number of ticks ahead lies that far ahead (R76). -/
theorem State.ticksTo_after (s : State) (n : Nat) (h : n ≤ 60000) : s.ticksTo (s.after n) = n := by
  rw [State.ticksTo, State.after, add_sub_cancel_left, BitVec.toNat_ofNat, Nat.mod_eq_of_lt (by omega)]

theorem State.ahead_after (s : State) {n : Nat} (h : n ≤ 60000) : s.ahead (s.after n) := by
  rw [State.ahead, s.ticksTo_after n h]
  exact h

/-- A lease set now is on time when its length is in range (R7, R26). -/
theorem State.leaseFor_timely (s : State) (length : Option Nat) (range : ∀ n ∈ length, 1 ≤ n ∧ n ≤ 60000) :
    (s.leaseFor length).timely s = true := by
  cases length with
  | none => rfl
  | some n =>
    obtain ⟨low, high⟩ := range n rfl
    exact decide_eq_true ⟨low, high, s.ahead_after high⟩

theorem Window.onTime_of_isStanding (s : State) {w : Window} (standing : w.isStanding = true) (live : w.drain = none) :
    w.OnTime s := by
  refine ⟨?_, by simp [live]⟩
  unfold Window.isStanding at standing
  split at standing
  · next h => rw [h]; rfl
  · cases standing
  · cases standing

/-! ### The relation -/

/-- From one state to a later one the clock, start-up control and the sessions' states have not changed, and windows
and waiters are on time if they were. -/
structure State.KeepsTime (s t : State) : Prop where
  clock : t.clock = s.clock
  startUp : t.startUp = s.startUp
  sessions : ∀ m, (t.session m).state = (s.session m).state
  onTime : s.OnTime → t.OnTime

namespace State.KeepsTime

variable {s t u : State}

theorem refl (s : State) : s.KeepsTime s := ⟨rfl, rfl, fun _ => rfl, id⟩

theorem now (h : s.KeepsTime t) : t.now = s.now := by rw [State.now, h.clock, State.now]

/-- An operation that leaves the time and the sessions' states, and adds no window or waiter that is not on time. -/
theorem of_windows (h : s.KeepsTime u)
    (windows : s.OnTime → ∀ i, ∀ w ∈ (t.record i).window, w ∈ (u.record i).window ∨ w.OnTime u)
    (waiters : s.OnTime → ∀ e ∈ t.queue, e ∈ u.queue ∨ e.OnTime u)
    (frame : t.clock = u.clock ∧ t.startUp = u.startUp ∧ ∀ m, (t.session m).state = (u.session m).state) :
    s.KeepsTime t := by
  obtain ⟨clock, startUp, sessions⟩ := frame
  have now : t.now = u.now := by rw [State.now, clock, State.now]
  refine ⟨clock.trans h.clock, startUp.trans h.startUp, fun m => (sessions m).trans (h.sessions m), fun hs => ?_⟩
  refine ⟨fun i w hw => (w.onTime_congr now).2 ?_, fun e he => (e.onTime_congr now).2 ?_⟩
  · exact (windows hs i w hw).elim ((h.onTime hs).windows i w) id
  · exact (waiters hs e he).elim ((h.onTime hs).waiters e) id

/-- An operation on pieces that hold no deadline; waiters may leave the queue. -/
theorem of_frame (h : s.KeepsTime u) (frame : t.clock = u.clock ∧ t.startUp = u.startUp ∧ t.table = u.table ∧
    (∀ m, (t.session m).state = (u.session m).state) ∧ ∀ e ∈ t.queue, e ∈ u.queue) : s.KeepsTime t := by
  obtain ⟨clock, startUp, table, sessions, queue⟩ := frame
  have record : ∀ i, t.record i = u.record i := fun i => by rw [State.record, table]; rfl
  exact h.of_windows (fun _ i w hw => .inl (record i ▸ hw)) (fun _ e he => .inl (queue e he))
    ⟨clock, startUp, sessions⟩

/-- A window is written that is on time. -/
theorem setWindow (h : s.KeepsTime u) (i : RecIdx) {w : Window} (hw : u.OnTime → w.OnTime u) :
    s.KeepsTime (u.setWindow i w) := by
  refine h.of_windows (fun hs j v hv => ?_) (fun _ e he => .inl (by simpa using he)) (by simp)
  rw [State.setWindow_record] at hv
  split at hv
  · obtain rfl := Option.some.inj hv
    exact .inr (hw (h.onTime hs))
  · exact .inl hv

/-- A window is written again with its lease and its drain. -/
theorem setWindow_same (h : s.KeepsTime u) {i : RecIdx} {w w' : Window} (hw : (u.record i).window = some w)
    (kind : w'.kind = w.kind) (drain : w'.drain = w.drain) : s.KeepsTime (u.setWindow i w') :=
  h.setWindow i fun hu => by
    rw [Window.OnTime, kind, drain]
    exact hu.windows i w hw

/-- A window is issued that is on time. -/
theorem issue (h : s.KeepsTime u) (i : RecIdx) {w : Window} (hw : s.OnTime → w.OnTime u) :
    s.KeepsTime (u.issue i w) := by
  refine h.of_windows (fun hs j v hv => ?_) (fun _ e he => .inl (by simpa using he)) (by simp)
  rw [State.issue_record] at hv
  split at hv
  · obtain rfl := Option.some.inj hv
    exact .inr (hw hs)
  · exact .inl hv

theorem raise (h : s.KeepsTime u) (m : Master) (f : Flag) : s.KeepsTime (u.raise m f) := h.of_frame (by simp)
theorem kickEngine (h : s.KeepsTime u) : s.KeepsTime u.kickEngine := h.of_frame (by simp)
theorem endOperation (h : s.KeepsTime u) : s.KeepsTime u.endOperation := h.of_frame (by simp)
theorem setNotice (h : s.KeepsTime u) (m : Master) (n : Notice) : s.KeepsTime (u.setNotice m n) :=
  h.of_frame (by simp)
theorem setWatch (h : s.KeepsTime u) (k : WatchIdx) (w : WatchRecord) : s.KeepsTime (u.setWatch k w) :=
  h.of_frame (by simp)
theorem placeReply (h : s.KeepsTime u) (m : Master) (r : Reply) : s.KeepsTime (u.placeReply m r) :=
  h.of_frame (by simp)

/-! ### The shared operations -/

theorem retire (h : s.KeepsTime u) (cause : RetireCause) (i : RecIdx) : s.KeepsTime (u.retire cause i) := by
  refine h.of_windows (fun _ j v hv => .inl ?_) (fun _ e he => .inl (by simpa using he)) (by simp)
  by_cases hj : i = j
  · subst hj
    cases hw : (u.record i).window with
    | none => rwa [u.retire_free cause i hw, hw] at hv
    | some w =>
      rw [u.retire_record cause i w hw, if_pos rfl] at hv
      cases hv
  · rwa [u.retire_record_ne cause i j hj] at hv

theorem retireAll (h : s.KeepsTime u) (cause : RetireCause) (l : List RecIdx) : s.KeepsTime (u.retireAll cause l) :=
  List.foldlRecOn _ _ h fun _ ht i _ => ht.retire cause i

theorem waitFail (h : s.KeepsTime u) (cause : FailCause) (e : Waiter) : s.KeepsTime (u.waitFail cause e) :=
  h.of_frame (by simp)

theorem removeWaiters (h : s.KeepsTime u) (cause : Option FailCause) (p : Waiter → Bool) :
    s.KeepsTime (u.removeWaiters cause p) :=
  h.of_frame ⟨by simp, by simp, by simp, by simp, fun e he => by
    rw [State.removeWaiters_queue] at he
    exact (List.mem_filter.1 he).1⟩

/-- What the scan grants, it grants with the lease the waiter asked for, counted from now (R54). -/
theorem grantScan (h : s.KeepsTime u) : s.KeepsTime u.grantScan := by
  refine h.of_windows (fun hs i w hw => ?_) (fun _ e he => .inl (u.grantScan_queue.subset he)) (by simp)
  cases held : (u.record i).window with
  | some v =>
    rw [u.grantScan_record i (by simp [held]), held] at hw
    exact .inl hw
  | none =>
    rcases u.grantScan_record_free i held with same | ⟨e, he, issued⟩
    · rw [same, held] at hw
      cases hw
    · rw [issued] at hw
      obtain rfl := Option.some.inj hw
      exact .inr ⟨u.leaseFor_timely _ ((h.onTime hs).waiters e he).2, nofun⟩

end State.KeepsTime

end Sys2Proof.Machine
end

section
/-! PROOFS. The requests that neither begin nor end a session keep the time, and every request renews an OPEN sender's
session (R67). -/

namespace Sys2Proof.Machine

/-- Of two ticks that lie ahead, the earlier does (R4). -/
theorem State.ahead_earlier {s : State} {a b : Tick} (ha : s.ahead a) (hb : s.ahead b) : s.ahead (s.earlier a b) := by
  rw [State.earlier]
  split
  · exact ha
  · exact hb

/-- A drain asked for now is on time when its grace is in range (R4, R86). -/
theorem State.ahead_drainOf {s : State} {w : Window} (cause : DrainCause) {grace : Nat} (hg : grace ≤ 60000)
    (hw : ∀ d ∈ w.drain, s.ahead d.deadline) : s.ahead (s.drainOf w cause grace).deadline := by
  unfold State.drainOf
  split
  · exact s.ahead_after hg
  · next d hd => exact State.ahead_earlier (hw d hd) (s.ahead_after hg)

namespace State.KeepsTime

variable {s u : State}

theorem drainWindow (h : s.KeepsTime u) (cause : DrainCause) {grace : Nat} (hg : grace ≤ 60000) (i : RecIdx) :
    s.KeepsTime (u.drainWindow cause grace i) := by
  unfold State.drainWindow
  split
  · exact h
  · next w hw =>
    split
    · exact h.retire _ i
    · refine (h.setWindow i fun hu => ?_).raise _ _
      obtain ⟨kind, drain⟩ := hu.windows i w hw
      exact ⟨kind, fun d hd => Option.some.inj hd ▸ State.ahead_drainOf cause hg drain⟩

theorem widen (h : s.KeepsTime u) (value : Nat) {grace : Nat} (hg : grace ≤ 60000) :
    s.KeepsTime (u.widen value grace) := by
  have drained : s.KeepsTime (u.bandDrained value grace) :=
    List.foldlRecOn _ _ h fun _ ht i _ => ht.drainWindow .banded hg i
  have removed : s.KeepsTime (u.bandRemoved value grace) := drained.removeWaiters _ _
  obtain scanned | ⟨left, -⟩ := u.widen_cases value grace
  · exact scanned ▸ removed.grantScan
  · exact left ▸ removed

/-- A waiter joins the queue that is on time (R31). -/
theorem enqueue (h : s.KeepsTime u) {e : Waiter} (he : e.OnTime u) : s.KeepsTime (u.enqueue e) := by
  refine h.of_windows (fun _ i w hw => .inl (by simpa using hw)) (fun _ x hx => ?_)
    ⟨by simp, by simp, u.enqueue_sessionState e⟩
  rw [State.enqueue_queue, List.mem_append, List.mem_singleton] at hx
  exact hx.imp_right fun new => by rwa [new]

/-! ### Requests -/

/-- A lease of a claim in range is on time, and so is its wait limit (R26, R31). -/
theorem claimAnswer (h : s.KeepsTime u) (m : Master) (c : ClaimOperands) :
    s.KeepsTime (claimAnswer m c u).state := by
  refine State.gated_keeps h fun hrange => State.gated_keeps h fun _ => ?_
  obtain ⟨-, -, lease, limit⟩ := c.rangeFault_eq_none.1 hrange
  have length : ∀ n ∈ c.length, 1 ≤ n ∧ n ≤ 60000 := fun n hn => by
    rw [ClaimOperands.length] at hn
    split at hn
    · cases hn
    · next positive =>
      obtain rfl := Option.some.inj hn
      exact ⟨Nat.pos_of_ne_zero positive, lease⟩
  split
  · exact h.issue _ fun _ => ⟨u.leaseFor_timely _ length, nofun⟩
  · unfold State.claimWaits
    split
    · next waits =>
      split
      · refine h.enqueue ⟨?_, length⟩
        have ahead := u.ahead_after (limit waits)
        simp only [State.claimWaiter]
        split
        · rfl
        · exact decide_eq_true ahead
      · exact h
    · split <;> exact h

/-- A renewal sets a lease of a length in range, or of the length it had (R33, R34). -/
theorem renewAnswer (h : s.KeepsTime u) (m : Master) (handle : Word) (ticks : Nat) :
    s.KeepsTime (renewAnswer m handle ticks u).state := by
  unfold Machine.renewAnswer Config.maxTicks
  split
  · exact h
  · next range =>
    refine State.withHandle_keeps h fun i w hw => ?_
    unfold renewWindow
    split
    · exact h
    · split
      · exact h
      · next live =>
        split
        · next l hk =>
          refine h.setWindow i fun hu => ⟨?_, fun d hd => absurd hd (by simp at live; simp [live])⟩
          obtain ⟨kind, -⟩ := hu.windows i w hw
          rw [hk] at kind
          obtain ⟨low, high, -⟩ := of_decide_eq_true kind
          have length : 1 ≤ (if ticks = 0 then l.length else ticks) ∧ (if ticks = 0 then l.length else ticks) ≤ 60000 := by
            split <;> omega
          exact decide_eq_true ⟨length.1, length.2, u.ahead_after length.2⟩
        · exact h
        · exact h

theorem releaseWindow (h : s.KeepsTime u) (m : Master) (i : RecIdx) (w : Window) :
    s.KeepsTime (releaseWindow m u i w).state := by
  unfold Machine.releaseWindow
  split
  · exact h
  · split
    · exact h
    · exact (h.retire _ i).grantScan

theorem changeMode (h : s.KeepsTime u) {i : RecIdx} {w : Window} (mode : AccessMode)
    (hw : (u.record i).window = some w) : s.KeepsTime (u.changeMode i w mode) :=
  (h.setWindow_same (w' := { w with mode := mode }) hw rfl rfl).of_frame (by simp [State.changeMode])

theorem downgradeWindow (h : s.KeepsTime u) (m : Master) {i : RecIdx} {w : Window}
    (hw : (u.record i).window = some w) : s.KeepsTime (downgradeWindow m u i w).state := by
  unfold Machine.downgradeWindow
  split
  · exact h
  · split
    · exact h
    · exact (h.changeMode .read hw).grantScan.kickEngine

theorem upgradeWindow (h : s.KeepsTime u) (m : Master) {i : RecIdx} {w : Window}
    (hw : (u.record i).window = some w) : s.KeepsTime (upgradeWindow m u i w).state := by
  unfold Machine.upgradeWindow
  split
  · exact h
  · split
    · exact h
    · split
      · exact h
      · split
        · exact h
        · exact (h.changeMode .write hw).kickEngine

theorem listAnswer (h : s.KeepsTime u) (m : Master) (start target : Word) :
    s.KeepsTime (listAnswer m start target u).state := by
  unfold Machine.listAnswer
  split
  · exact h
  · split
    · exact h
    · split <;> exact h

theorem cancelAnswer (h : s.KeepsTime u) (m : Master) (t : Word) : s.KeepsTime (cancelAnswer m t u).state := by
  unfold Machine.cancelAnswer
  split
  · exact (h.removeWaiters _ _).grantScan
  · exact h
  · exact h
  · exact h

theorem ticketAnswer (h : s.KeepsTime u) (m : Master) (t : Word) : s.KeepsTime (ticketAnswer m t u).state := by
  unfold Machine.ticketAnswer
  split <;> exact h

/-- A window that stands has no lease to run out (R134). -/
theorem standAnswer (h : s.KeepsTime u) (m : Master) {i : RecIdx} {w : Window} (hw : (u.record i).window = some w) :
    s.KeepsTime (standAnswer m u i w).state := by
  have stood : ∀ k, s.KeepsTime (u.standWindow i w k) := fun k =>
    (h.setWindow (w := { w with kind := .standing k }) i fun hu => ⟨rfl, (hu.windows i w hw).2⟩).of_frame
      ⟨by simp, by simp, by simp [State.standWindow, State.setWindow, State.setRecord, State.record], by simp, by simp⟩
  unfold Machine.standAnswer
  split
  · exact h
  · split
    · exact h
    · split
      · exact h
      · split
        · exact h
        · split
          · exact h
          · exact (stood _).kickEngine

theorem unstandAnswer (h : s.KeepsTime u) (m : Master) {i : RecIdx} {w : Window}
    (hw : (u.record i).window = some w) : s.KeepsTime (unstandAnswer m u i w).state := by
  have changed : ∀ k, s.KeepsTime (u.unstandWindow i w k) := fun k =>
    (h.setWindow (w := { w with kind := .session }) i fun hu => ⟨rfl, (hu.windows i w hw).2⟩).of_frame
      (by simp [State.unstandWindow])
  unfold Machine.unstandAnswer
  split
  · exact h
  · split
    · exact h
    · exact h
    · split
      · exact h
      · exact (changed _).kickEngine

theorem watchSetAnswer (h : s.KeepsTime u) (m : Master) (base size : Nat) (kinds : WatchKinds) :
    s.KeepsTime (watchSetAnswer m base size kinds u).state := by
  unfold Machine.watchSetAnswer
  split
  · exact h
  · split
    · exact h
    · split
      · exact h
      · exact h.setWatch _ _

/-- QUOTA changes no session's state (R84). -/
theorem quotaAnswer (h : s.KeepsTime u) (target : Word) (quota allowance : Nat) :
    s.KeepsTime (quotaAnswer target quota allowance u).state := by
  unfold Machine.quotaAnswer
  split
  · exact h
  · next t _ =>
    split
    · exact h
    · split
      · exact h
      · refine h.of_frame ⟨rfl, rfl, rfl, fun k => ?_, fun _ he => he⟩
        simp only [State.ok, State.setSession_session]
        split
        · next same => rw [same]
        · rfl

theorem revokeAnswer (h : s.KeepsTime u) (handle : Word) (grace : Nat) :
    s.KeepsTime (revokeAnswer handle grace u).state := by
  unfold Machine.revokeAnswer Config.maxTicks
  split
  · exact h
  · next range =>
    refine State.withHandle_keeps h fun i w _ => ?_
    unfold revokeWindow
    split
    · exact (h.drainWindow .revoked (Nat.zero_le _) i).grantScan.kickEngine
    · have marked : s.KeepsTime ((u.drainWindow .revoked grace i).markRevokedOf w) :=
        (h.drainWindow .revoked (Nat.le_of_not_lt range) i).of_frame (by simp)
      exact marked.kickEngine

theorem bandAnswer (h : s.KeepsTime u) (value grace : Nat) : s.KeepsTime (bandAnswer value grace u).state := by
  unfold Machine.bandAnswer Config.maxTicks
  split
  · exact h
  · next range =>
    have pending : s.KeepsTime (u.setPendingBand value) := h.of_frame (by simp)
    unfold bandValueAnswer
    split
    · exact (pending.widen value (by omega)).kickEngine
    · split
      · exact pending.kickEngine
      · split <;> exact h

theorem purgeAnswer (h : s.KeepsTime u) (slot : Word) : s.KeepsTime (purgeAnswer slot u).state := by
  unfold Machine.purgeAnswer
  split
  · exact h
  · next k _ =>
    split
    · have purged : s.KeepsTime (u.purgeWindow (u.slot k).binding) := by
        cases (u.slot k).binding with
        | none => exact h
        | some i => exact (h.retire _ i).grantScan
      have marked : s.KeepsTime ((u.purgeWindow (u.slot k).binding).changeSlot k Slot.markPurged) :=
        purged.of_frame (by simp)
      exact marked.kickEngine
    · exact h

theorem serve {m : Master} {code : Byte} {ok : Bool} {body : State → Answer}
    (hb : ∀ u : State, u.KeepsTime (body u).state) : (s.renewSession m).KeepsTime (serve m code ok body s) :=
  serve_keeps (P := (s.renewSession m).KeepsTime) (refl _) (fun _ => hb _) fun _ r hu => hu.placeReply m r

end State.KeepsTime

/-- The requests that can begin or end a session: OPEN, CLOSE, EVICT and RESTART (R69, R70, R93, R96). -/
def turnsSession : Instr → Bool
  | .openSession _ _ | .close _ | .evict _ _ | .restart _ => true
  | _ => false

/-- Every other request, from a row of its own or from a frame, keeps the time after the sender's renewal. -/
theorem takeRequest_keepsTime (i : Instr) (s : State) {m : Master} {code : Nat} {ops : List Word}
    (hp : requestParts i = some (m, code, ops)) (quiet : turnsSession i = false) :
    (s.renewSession m).KeepsTime (takeRequest i s) := by
  have same := State.KeepsTime.refl
  cases i with (cases hp <;> dsimp only [takeRequest])
  | openSession | close | evict | restart => cases quiet
  | nop | status | keepalive | noticeRead => exact .serve fun u => State.gated_keeps (same u) fun _ => same u
  | noticeAck | noticeEnable =>
    exact .serve fun u => State.gated_keeps (same u) fun _ => (same u).setNotice m _
  | claim => exact .serve fun u => State.gated_keeps (same u) fun _ => (same u).claimAnswer m _
  | renew => exact .serve fun u => State.gated_keeps (same u) fun _ => (same u).renewAnswer m _ _
  | release =>
    exact .serve fun u => State.gated_keeps (same u) fun _ =>
      State.withHandle_keeps (same u) fun i w _ => (same u).releaseWindow m i w
  | downgrade =>
    exact .serve fun u => State.gated_keeps (same u) fun _ =>
      State.withHandle_keeps (same u) fun _ _ hw => (same u).downgradeWindow m hw
  | upgrade =>
    exact .serve fun u => State.gated_keeps (same u) fun _ =>
      State.withHandle_keeps (same u) fun _ _ hw => (same u).upgradeWindow m hw
  | query =>
    exact .serve fun u => State.gated_keeps (same u) fun _ => State.withHandle_keeps (same u) fun _ w hw =>
      (same u).setWindow_same (w' := { w with touched := false }) hw rfl rfl
  | list => exact .serve fun u => State.gated_keeps (same u) fun _ => (same u).listAnswer m _ _
  | cancel => exact .serve fun u => State.gated_keeps (same u) fun _ => (same u).cancelAnswer m _
  | ticket => exact .serve fun u => State.gated_keeps (same u) fun _ => (same u).ticketAnswer m _
  | stand =>
    exact .serve fun u => State.gated_keeps (same u) fun _ =>
      State.withHandle_keeps (same u) fun _ _ hw => (same u).standAnswer m hw
  | unstand =>
    exact .serve fun u => State.gated_keeps (same u) fun _ =>
      State.withHandle_keeps (same u) fun _ _ hw => (same u).unstandAnswer m hw
  | watchSet => exact .serve fun u => State.gated_keeps (same u) fun _ => (same u).watchSetAnswer m _ _ _
  | watchClear | watchRead =>
    exact .serve fun u => State.gated_keeps (same u) fun _ =>
      State.withWatch_keeps (same u) fun k _ _ _ => (same u).setWatch k _
  | quota => exact .serve fun u => State.gated_keeps (same u) fun _ => (same u).quotaAnswer _ _ _
  | revoke => exact .serve fun u => State.gated_keeps (same u) fun _ => (same u).revokeAnswer _ _
  | band => exact .serve fun u => State.gated_keeps (same u) fun _ => (same u).bandAnswer _ _
  | purge => exact .serve fun u => State.gated_keeps (same u) fun _ => (same u).purgeAnswer _

/-- OPEN from an OPEN session is refused (R69). -/
theorem openAnswer_of_isOpen {u : State} {m : Master} (opened : (u.session m).state.isOpen = true) (period : Nat) :
    (openAnswer m period u).state = u := by
  unfold openAnswer
  split
  · rfl
  · cases hx : (u.session m).state with
    | opened => rfl
    | closed | lapsed => rw [hx] at opened; cases opened

/-- A renewal sets the deadline of an OPEN session to now plus its period (R67). -/
theorem State.renewSession_of_opened {s : State} {m : Master} {period : Nat} {deadline : Tick}
    (opened : (s.session m).state = .opened period deadline) :
    ((s.renewSession m).session m).state = .opened period (s.after period) := by
  rw [State.renewSession_session, if_pos rfl, opened]

theorem State.renewSession_session_ne (s : State) {m k : Master} (h : k ≠ m) :
    (s.renewSession m).session k = s.session k := by
  rw [State.renewSession_session, if_neg h.symm]

/-- A request but CLOSE, EVICT and RESTART from an OPEN session leaves the sessions' states as its renewal does. -/
theorem takeRequest_sessions (i : Instr) (s : State) {m : Master} {code : Nat} {ops : List Word}
    (hp : requestParts i = some (m, code, ops)) (close : i ≠ .close m) (evict : ∀ w, i ≠ .evict m w)
    (restart : i ≠ .restart m) (opened : (s.session m).state.isOpen = true) (k : Master) :
    ((takeRequest i s).session k).state = ((s.renewSession m).session k).state := by
  cases turns : turnsSession i with
  | false => exact (takeRequest_keepsTime i s hp turns).sessions k
  | true =>
    cases i with cases hp
    | openSession _ period =>
      have refused := openAnswer_of_isOpen ((s.renewSession_isOpen m m).trans opened) period.toNat
      have renewed := State.KeepsTime.refl (s.renewSession m)
      have kept : (s.renewSession m).KeepsTime (takeOpenSession m period s) :=
        serve_keeps renewed (fun _ => State.gated_keeps renewed fun _ => by rwa [refused])
          fun _ r hu => hu.placeReply m r
      exact kept.sessions k
    | close => exact absurd rfl close
    | evict => exact absurd rfl (evict _)
    | restart => exact absurd rfl restart
    | _ => cases turns

end Sys2Proof.Machine

open Sys2Proof Sys2Proof.Machine

/-- Settles O3: whatever its answer, a request that ends no session leaves the sessions as the renewal ahead of it. -/
theorem requestRenewsSession : Obligations.RequestRenewsSession := by
  intro i s m code ops period deadline hp supply close evict restart opened
  have sessions := takeRequest_sessions i s hp close evict restart (by rw [opened]; rfl)
  refine ⟨takeRequest i s, exec_eq_takeRequest hp supply, ?_, fun k hk => ?_⟩
  · rw [sessions, State.renewSession_of_opened opened]
  · rw [sessions, s.renewSession_session_ne hk]

end

section
/-! PROOFS. What TICK waits for, and what it does to the deadlines (R76, R77, R79). -/

namespace Sys2Proof.Machine

section
variable (s : State)

theorem State.lapseDue_eq_false (m : Master) : s.lapseDue m = false ↔
    ∀ period deadline, (s.session m).state = .opened period deadline → s.clock ≠ some deadline := by
  unfold State.lapseDue
  cases (s.session m).state <;> simp [State.reached]

theorem State.leaseDue_eq_false (w : Window) :
    s.leaseDue w = false ↔ ∀ l, w.kind = .timed l → s.clock ≠ some l.deadline := by
  unfold State.leaseDue
  cases w.kind <;> simp [State.reached]

theorem State.drainDue_eq_false (w : Window) :
    s.drainDue w = false ↔ ∀ d, w.drain = some d → s.clock ≠ some d.deadline := by
  unfold State.drainDue
  cases w.drain <;> simp [State.reached]

theorem State.warningDue_eq_false (w : Window) : s.warningDue w = false ↔
    ∀ l, w.kind = .timed l → s.clock ≠ none → w.drain = none → l.warned = false →
      s.ticksTo l.deadline < 1 ∨ max 1 (l.length / 8) < s.ticksTo l.deadline ∨ l.length ≤ s.ticksTo l.deadline := by
  cases hk : w.kind with
  | timed l =>
    rw [Bool.eq_false_iff, ne_eq, s.warningDue_timed w hk]
    simp only [not_and_or, Nat.not_le, Nat.not_lt]
    simp only [LeaseKind.timed.injEq, forall_eq', ← or_iff_not_imp_left, not_not]
    tauto
  | session | standing k => simp [s.warningDue_untimed w (by simp [hk])]

theorem State.waitDue_eq_false (e : Waiter) :
    s.waitDue e = false ↔ ∀ d, e.deadline = some d → s.clock ≠ some d := by
  rw [Bool.eq_false_iff, ne_eq, s.waitDue_iff]
  simp

/-- Nothing is due and untaken exactly when no session, window or waiter makes it so (R77). -/
theorem State.expiryPending_eq_false : s.expiryPending = false ↔
    (∀ m, s.lapseDue m = false) ∧
    (∀ i w, (s.record i).window = some w → s.leaseDue w = false ∧ s.drainDue w = false ∧ s.warningDue w = false) ∧
    ∀ e ∈ s.queue, s.waitDue e = false := by
  have window : ∀ i, (s.record i).window.any (fun w => s.leaseDue w || s.drainDue w || s.warningDue w) = false ↔
      ∀ w, (s.record i).window = some w → s.leaseDue w = false ∧ s.drainDue w = false ∧ s.warningDue w = false :=
    fun i => by cases (s.record i).window <;> simp [and_assoc]
  simp [State.expiryPending, window, and_assoc]

end

/-- The three kinds of records TICK looks at, deadline by deadline (R77, R79). -/
theorem State.expiryPending_eq_false_iff (s : State) : s.expiryPending = false ↔
    (∀ m period deadline, (s.session m).state = .opened period deadline → s.clock ≠ some deadline) ∧
    (∀ i w l, (s.record i).window = some w → w.kind = .timed l → s.clock ≠ some l.deadline) ∧
    (∀ i w d, (s.record i).window = some w → w.drain = some d → s.clock ≠ some d.deadline) ∧
    (∀ i w l, (s.record i).window = some w → w.kind = .timed l → s.clock ≠ none → w.drain = none →
      l.warned = false → s.ticksTo l.deadline < 1 ∨ max 1 (l.length / 8) < s.ticksTo l.deadline ∨
        l.length ≤ s.ticksTo l.deadline) ∧
    ∀ e d, e ∈ s.queue → e.deadline = some d → s.clock ≠ some d := by
  rw [s.expiryPending_eq_false]
  simp only [s.lapseDue_eq_false, s.leaseDue_eq_false, s.drainDue_eq_false, s.warningDue_eq_false, s.waitDue_eq_false]
  exact ⟨fun ⟨sessions, windows, waiters⟩ => ⟨sessions, fun i w l hw => (windows i w hw).1 l,
      fun i w d hw => (windows i w hw).2.1 d, fun i w l hw => (windows i w hw).2.2 l,
      fun e d he => waiters e he d⟩,
    fun ⟨sessions, leases, drains, warnings, waiters⟩ => ⟨sessions, fun i w hw =>
      ⟨fun l => leases i w l hw, fun d => drains i w d hw, fun l => warnings i w l hw⟩, fun e he d => waiters e d he⟩⟩

/-! ### The end of a tick (R76) -/

section
variable {s : State} {now : Tick}

theorem State.advance_stopped (clock : s.clock = none) : s.advance = s := by
  rw [State.advance, clock]

theorem State.advance_waits (pending : s.expiryPending = true) : s.advance = s := by
  unfold State.advance
  split
  · rfl
  · exact if_pos pending

theorem State.advance_runs (clock : s.clock = some now) (idle : s.expiryPending = false) :
    s.advance = s.setClock (some (now + 1)) := by
  rw [State.advance, clock]
  exact if_neg (by simp [idle])

/-- A tick that is not a deadline's brings the deadline nearer (R76). -/
theorem State.ahead_setClock (clock : s.clock = some now) {d : Tick} (other : s.clock ≠ some d) (h : s.ahead d) :
    (s.setClock (some (now + 1))).ahead d := by
  have apart : d ≠ now := fun e => other (by rw [clock, e])
  simp only [State.ahead, State.ticksTo, State.now, clock, State.setClock_clock, Option.getD_some] at h ⊢
  bv_omega

end

end Sys2Proof.Machine

open Sys2Proof Sys2Proof.Machine

/-- Settles O50, from the three cases of the end of a tick and from what is due. -/
theorem clockTick : Obligations.ClockTick := by
  intro s supply
  have tick : exec .tick s = .next s.advance := whenPowered_next _ s supply
  refine ⟨fun stopped => ?_, fun now clock idle => ?_, fun pending => ?_, s.expiryPending_eq_false_iff⟩
  · rw [tick, State.advance_stopped stopped]
  · rw [tick, State.advance_runs clock idle]
  · rw [tick, State.advance_waits pending]

end

section
/-! PROOFS. The laws of the deadlines and of the start as one predicate, by whether the part is in STARTING, and the
rules of the requests and events for it. -/

namespace Sys2Proof.Machine

/-! ### A part in STARTING, and one that has left it (R76, R147 to R153) -/

/-- The records and slots from this place on are as a start left them, and so is their report. -/
structure State.Unread (s : State) (n : Nat) : Prop where
  records : ∀ i : RecIdx, n ≤ i.val → (s.record i).holding = .free none ∧ (s.record i).generation = 0
  slots : ∀ k : SlotIdx, n ≤ k.val → (s.slot k).binding = none ∧ (s.slot k).mark = .none ∧
    s.startUp.damaged.getLsbD k.val = false ∧ s.startUp.rejected.getLsbD k.val = false

/-- No waiter, no OPEN session, and no window but restored ones. -/
structure State.Dormant (s : State) : Prop where
  queue : s.queue = []
  sessions : ∀ m : Master, (s.session m).state = .closed
  windows : ∀ i : RecIdx, ∀ w ∈ (s.record i).window, w.isStanding = true ∧ w.drain = none

/-- What the start-up law says of a part in STARTING that has decided this many slots. -/
structure State.InStart (s : State) (n : Nat) : Prop extends s.Dormant where
  mode : s.mode = .starting
  clock : s.clock = none
  maintenance : s.startUp.maintenance = false
  reports : s.startUp.damaged &&& s.startUp.rejected = 0
  hold : s.startUp.hold = true → s.engine = .idle ∧ s.pins.supply = true
  notices : ∀ m : Master, (s.notice m).flags = 0 ∧ (s.notice m).enables = 0
  watches : ∀ k : WatchIdx, s.watch k = .free
  unread : s.pins.supply = true → s.Unread n

/-- What the start-up law says of a part that is RUNNING or in MAINTENANCE, with its deadlines. -/
structure State.Running (s : State) : Prop where
  mode : s.mode ≠ .starting
  clock : s.clock ≠ none
  maintenance : s.startUp.maintenance = true ↔ s.mode = .maintenance
  cause : s.mode = .maintenance → s.startUp.cause ≠ .soft
  reports : s.startUp.damaged &&& s.startUp.rejected = 0
  hold : s.startUp.hold = false
  deadlines : s.deadlineLaw

/-- The part is in STARTING or has left it, and keeps the laws of its deadlines and of its start. -/
def State.TimeSound (s : State) : Prop := s.InStart s.engine.slotsRead ∨ s.Running

/-- A part that holds no more than restored windows has no deadline. -/
theorem State.Dormant.deadlineLaw {s : State} (h : s.Dormant) : s.deadlineLaw := by
  refine s.deadlineLaw_iff.2 ⟨fun m => ?_, fun i w hw => ?_, fun e he => ?_⟩
  · rw [h.sessions m]
    rfl
  · obtain ⟨standing, live⟩ := h.windows i w hw
    exact Window.onTime_of_isStanding s standing live
  · rw [h.queue] at he
    cases he

theorem State.InStart.startLaw {s : State} (h : s.InStart s.engine.slotsRead) : s.startLaw := by
  refine ⟨by simp [h.clock, h.mode], by simp [h.maintenance, h.mode], by simp [h.mode], h.reports,
    fun hold => ⟨h.mode, h.hold hold⟩, fun _ => ⟨h.queue, fun m => ⟨h.sessions m, h.notices m⟩, h.watches, h.windows,
      fun supply => ⟨(h.unread supply).records, (h.unread supply).slots⟩⟩⟩

theorem State.Running.startLaw {s : State} (h : s.Running) : s.startLaw :=
  ⟨iff_of_false h.clock h.mode, h.maintenance, h.cause, h.reports, fun hold => by simp [h.hold] at hold,
    fun starting => absurd starting h.mode⟩

theorem State.TimeSound.laws {s : State} (h : s.TimeSound) : s.deadlineLaw ∧ s.startLaw := by
  rcases h with starting | running
  · exact ⟨starting.deadlineLaw, starting.startLaw⟩
  · exact ⟨running.deadlines, running.startLaw⟩

theorem State.timeSound_of_laws {s : State} (deadlines : s.deadlineLaw) (start : s.startLaw) : s.TimeSound := by
  obtain ⟨clock, maintenance, cause, reports, hold, starting⟩ := start
  by_cases mode : s.mode = .starting
  · obtain ⟨queue, sessions, watches, windows, unread⟩ := starting mode
    refine .inl ⟨⟨queue, fun m => (sessions m).1, windows⟩, mode, clock.2 mode, ?_, reports, fun h => (hold h).2,
      fun m => (sessions m).2, watches, fun supply => ⟨(unread supply).1, (unread supply).2⟩⟩
    rw [Bool.eq_false_iff, ne_eq, maintenance, mode]
    nofun
  · exact .inr ⟨mode, mt clock.1 mode, maintenance, cause, reports, Bool.eq_false_iff.2 fun h => mode (hold h).1,
      deadlines⟩

/-! ### The rules of a part that has left STARTING -/

namespace State.Running

variable {s t : State}

theorem onTime (h : s.Running) : s.OnTime := (s.deadlineLaw_iff.1 h.deadlines).2

theorem timely (h : s.Running) (m : Master) : (s.session m).state.timely s = true :=
  (s.deadlineLaw_iff.1 h.deadlines).1 m

/-- The clock runs on or stands, start-up control is as it was, and the deadlines are kept. -/
theorem of_startUp (h : s.Running) (startUp : t.startUp = s.startUp) (clock : t.clock ≠ none)
    (deadlines : t.deadlineLaw) : t.Running := by
  have mode : t.mode = s.mode := congrArg StartUp.mode startUp
  refine ⟨mode ▸ h.mode, clock, ?_, ?_, ?_, startUp ▸ h.hold, deadlines⟩
  · rw [startUp, mode]
    exact h.maintenance
  · rw [startUp, mode]
    exact h.cause
  · rw [startUp]
    exact h.reports

theorem of_keepsTime (h : s.Running) (kept : s.KeepsTime t) : t.Running := by
  refine h.of_startUp kept.startUp (kept.clock ▸ h.clock) (t.deadlineLaw_iff.2 ⟨fun m => ?_, kept.onTime h.onTime⟩)
  rw [kept.sessions, SessionState.timely_congr kept.now]
  exact h.timely m

/-- A session takes a state whose deadline lies ahead. -/
theorem setSessionState (h : s.Running) (m : Master) {x : SessionState} (hx : x.timely s = true) :
    (s.setSessionState m x).Running := by
  have now : (s.setSessionState m x).now = s.now := by simp
  refine h.of_startUp (by simp) (by simpa using h.clock) ((State.deadlineLaw_iff _).2 ⟨fun k => ?_, fun i w hw => ?_,
    fun e he => ?_⟩)
  · rw [SessionState.timely_congr now, State.setSessionState, State.setSession_session]
    split
    · exact hx
    · exact h.timely k
  · exact (w.onTime_congr now).2 (h.onTime.windows i w (by simpa using hw))
  · exact (e.onTime_congr now).2 (h.onTime.waiters e (by simpa using he))

theorem renewSession (h : s.Running) (m : Master) : (s.renewSession m).Running := by
  unfold State.renewSession
  split
  · next period deadline hx =>
    have timely := h.timely m
    rw [hx] at timely
    obtain ⟨low, high, -⟩ := of_decide_eq_true timely
    exact h.setSessionState m (decide_eq_true ⟨low, high, s.ahead_after high⟩)
  · exact h
  · exact h

theorem endSession (h : s.Running) (m : Master) (cause : RetireCause) (fail : Option FailCause) {after : SessionState}
    (shut : after.isOpen = false) : (s.endSession m cause fail after).Running := by
  have removed := ((State.KeepsTime.refl s).retireAll cause (s.recordsWhere fun _ w => endsWith m w)).removeWaiters fail
    fun e => decide (e.master = m)
  have timely : after.timely s = true := by
    cases after with
    | opened => cases shut
    | closed | lapsed => rfl
  have freed := removed.of_frame (t := State.freeWatches _ m) ⟨rfl, rfl, rfl, fun _ => rfl, fun _ he => he⟩
  have ended := (h.of_keepsTime freed).setSessionState m ((SessionState.timely_congr freed.now after).trans timely)
  exact ended.of_keepsTime (State.KeepsTime.refl _).grantScan

/-! ### Requests -/

/-- OPEN sets a deadline of a period in range (R69). -/
theorem openAnswer (h : s.Running) (m : Master) (period : Nat) : (openAnswer m period s).state.Running := by
  unfold Machine.openAnswer Config.minPeriod Config.maxTicks
  split
  · exact h
  · next range =>
    have low : 10 ≤ period := by omega
    have high : period ≤ 60000 := by omega
    have timely : (SessionState.opened period (s.after period)).timely s = true :=
      decide_eq_true ⟨low, high, s.ahead_after high⟩
    split
    · exact h
    · exact h.setSessionState m timely
    · exact h.setSessionState m timely

theorem closeAnswer (h : s.Running) (m : Master) : (closeAnswer m s).state.Running := by
  unfold Machine.closeAnswer
  split
  · exact h.endSession m _ _ rfl
  · exact h.setSessionState m rfl
  · exact h

theorem evictAnswer (h : s.Running) (target : Word) : (evictAnswer target s).state.Running := by
  unfold Machine.evictAnswer
  split
  · exact h
  · unfold evictTarget
    split
    · exact h.endSession _ _ _ rfl
    · exact h.setSessionState _ rfl
    · exact h

theorem serve (h : s.Running) {m : Master} {code : Byte} {ok : Bool} {body : State → Answer}
    (hb : ∀ u : State, u.Running → (body u).state.Running) : (serve m code ok body s).Running :=
  serve_keeps (h.renewSession m) (hb _) fun u r hu => hu.of_keepsTime ((State.KeepsTime.refl u).placeReply m r)

end State.Running

/-! ### The rules of a part in STARTING -/

namespace State.InStart

variable {s t : State} {n : Nat}

theorem of_frame (h : s.InStart n) (frame : t.clock = s.clock ∧ t.startUp = s.startUp ∧ t.table = s.table ∧
    t.sessions = s.sessions ∧ t.queue = s.queue ∧ t.notices = s.notices ∧ t.watches = s.watches ∧
    t.pins.supply = s.pins.supply ∧ t.engine = s.engine ∧
    ∀ k, (t.slot k).binding = (s.slot k).binding ∧ (t.slot k).mark = (s.slot k).mark) : t.InStart n := by
  obtain ⟨clock, startUp, table, sessions, queue, notices, watches, supply, engine, slots⟩ := frame
  have record : ∀ i, t.record i = s.record i := fun i => by rw [State.record, table]; rfl
  have session : ∀ m, t.session m = s.session m := fun m => by rw [State.session, sessions]; rfl
  have notice : ∀ m, t.notice m = s.notice m := fun m => by rw [State.notice, notices]; rfl
  have watch : ∀ k, t.watch k = s.watch k := fun k => by rw [State.watch, watches]; rfl
  refine ⟨⟨queue ▸ h.queue, fun m => session m ▸ h.sessions m, fun i w hw => h.windows i w (record i ▸ hw)⟩,
    (congrArg StartUp.mode startUp).trans h.mode, clock ▸ h.clock, startUp ▸ h.maintenance, startUp ▸ h.reports, ?_,
    fun m => notice m ▸ h.notices m, fun k => watch k ▸ h.watches k, fun on => ?_⟩
  · rw [startUp, engine, supply]
    exact h.hold
  · obtain ⟨records, unbound⟩ := h.unread (supply ▸ on)
    exact ⟨fun i hi => record i ▸ records i hi, fun k hk => by
      rw [(slots k).1, (slots k).2, startUp]
      exact unbound k hk⟩

theorem renewSession (h : s.InStart n) (m : Master) : s.renewSession m = s :=
  s.renewSession_closed m (by rw [h.sessions m]; rfl)

/-- The engine begins or goes on with the read, the power-on hold having ended (R147, R149). -/
theorem setEngine (h : s.InStart n) (hold : s.startUp.hold = false) (e : Engine) : (s.setEngine e).InStart n :=
  { h with
    hold := fun held => by simp [hold] at held
    unread := fun supply => ⟨(h.unread supply).records, (h.unread supply).slots⟩ }

/-- The power-on hold ends, or the band cell is found DAMAGED (R147, R149). -/
theorem setStartUp (h : s.InStart n) {hold : Bool} (bandDamaged : Bool) (ends : hold = true → s.startUp.hold = true) :
    (s.setStartUp { s.startUp with bandDamaged := bandDamaged, hold := hold }).InStart n :=
  { h with
    hold := fun held => h.hold (ends held)
    unread := fun supply => ⟨(h.unread supply).records, (h.unread supply).slots⟩ }

/-- A start leaves nothing decided (R147). -/
theorem beginStart (s : State) (cause : StartCause) (hold : Bool) (p : Pins) (supply : hold = true → p.supply = true) :
    ((s.beginStart cause hold).setPins p).InStart 0 where
  queue := rfl
  sessions := fun m => by
    rw [State.setPins_session, State.beginStart_session, Session.atStart]
    split <;> rfl
  windows := fun i w hw => by simp at hw
  mode := rfl
  clock := rfl
  maintenance := rfl
  reports := BitVec.zero_and
  hold := fun held => ⟨rfl, supply held⟩
  notices := fun m => by simp [Notice.atStart]
  watches := fun k => by simp
  unread := fun _ => ⟨fun i _ => by simp, fun k _ => by
    rw [State.setPins_slot, State.beginStart_slot]
    exact ⟨rfl, rfl, BitVec.getLsbD_zero, BitVec.getLsbD_zero⟩⟩

theorem softStart (s : State) : s.softStart.InStart s.softStart.engine.slotsRead :=
  (beginStart s .soft false (s.beginStart .soft false).pins nofun).setEngine rfl (.reading .band)

/-! ### The start-up read -/

theorem mono (h : s.InStart n) {n' : Nat} (hn : n ≤ n') : s.InStart n' :=
  { h with
    unread := fun supply => ⟨fun i hi => (h.unread supply).records i (hn.trans hi),
      fun k hk => (h.unread supply).slots k (hn.trans hk)⟩ }

/-- One slot is decided: its record and its report are its own, and its window, if it is given one, stands (R150). -/
theorem decide_slot {k : SlotIdx} (h : s.InStart k.val) (reports : t.startUp.damaged &&& t.startUp.rejected = 0)
    (windows : ∀ i, ∀ w ∈ (t.record i).window, w ∈ (s.record i).window ∨ w.isStanding = true ∧ w.drain = none)
    (later : s.Unread k.val → t.Unread (k.val + 1))
    (startUp : t.startUp = { s.startUp with damaged := t.startUp.damaged, rejected := t.startUp.rejected })
    (frame : t.clock = s.clock ∧ t.sessions = s.sessions ∧ t.queue = s.queue ∧ t.notices = s.notices ∧
      t.watches = s.watches ∧ t.pins.supply = s.pins.supply ∧ t.engine = s.engine) : t.InStart (k.val + 1) := by
  obtain ⟨clock, sessions, queue, notices, watches, supply, engine⟩ := frame
  have session : ∀ m, t.session m = s.session m := fun m => by rw [State.session, sessions]; rfl
  have notice : ∀ m, t.notice m = s.notice m := fun m => by rw [State.notice, notices]; rfl
  have watch : ∀ k, t.watch k = s.watch k := fun k => by rw [State.watch, watches]; rfl
  refine ⟨⟨queue ▸ h.queue, fun m => session m ▸ h.sessions m, fun i w hw => ?_⟩,
    (congrArg StartUp.mode startUp).trans h.mode, clock ▸ h.clock, ?_, reports, ?_, fun m => notice m ▸ h.notices m,
    fun k => watch k ▸ h.watches k, fun on => later (h.unread (supply ▸ on))⟩
  · exact (windows i w hw).elim (h.windows i w) id
  · rw [startUp]
    exact h.maintenance
  · rw [startUp, engine, supply]
    exact h.hold

end State.InStart

/-! ### The start-up read (R149 to R153) -/

theorem slotBit_getLsbD (k j : SlotIdx) : (slotBit k).getLsbD j.val = decide (j = k) := by
  revert k j
  decide

/-- The bit of a slot joins one word of the report and is not in the other (R153). -/
theorem slotBit_disjoint {k : SlotIdx} {a b : BitVec 12} (disjoint : a &&& b = 0) (clear : b.getLsbD k.val = false) :
    (a ||| slotBit k) &&& b = 0 := by
  refine BitVec.eq_of_getLsbD_eq fun i hi => ?_
  have apart := congrArg (BitVec.getLsbD · i) disjoint
  have bit := slotBit_getLsbD k ⟨i, hi⟩
  simp only [BitVec.getLsbD_and, BitVec.getLsbD_or] at apart bit ⊢
  by_cases same : i = k.val
  · rw [same, clear, Bool.and_false]
    exact BitVec.getLsbD_zero.symm
  · rw [bit, decide_eq_false fun e => same (congrArg Fin.val e), Bool.or_false, apart]

/-- A restored window is LIVE (R150). -/
theorem imageWindow_drain (x : Image) (k : SlotIdx) (w : Window) (h : imageWindow x k = some w) : w.drain = none := by
  unfold imageWindow at h
  split at h
  · split at h
    · split at h
      · exact Option.some.inj h ▸ rfl
      · cases h
    · cases h
  · cases h

namespace State.Unread

variable {s t : State} {k : SlotIdx}

theorem mono {n n' : Nat} (h : s.Unread n) (hn : n ≤ n') : s.Unread n' :=
  ⟨fun i hi => h.records i (hn.trans hi), fun j hj => h.slots j (hn.trans hj)⟩

/-- A slot that is reported leaves the later slots and their report alone. -/
theorem report (h : s.Unread k.val) {x : Slot} {d r : BitVec 12}
    (damaged : d = s.startUp.damaged ∨ d = s.startUp.damaged ||| slotBit k)
    (rejected : r = s.startUp.rejected ∨ r = s.startUp.rejected ||| slotBit k) :
    ((s.setSlot k x).setStartUp { s.startUp with damaged := d, rejected := r }).Unread (k.val + 1) := by
  refine ⟨fun i hi => by simpa using h.records i (by omega), fun j hj => ?_⟩
  obtain ⟨binding, mark, clearD, clearR⟩ := h.slots j (by omega)
  have other : k ≠ j := fun e => by subst e; omega
  have bit : (slotBit k).getLsbD j.val = false := by rw [slotBit_getLsbD, decide_eq_false other.symm]
  rw [State.setStartUp_slot, s.setSlot_slot_ne k x j other]
  refine ⟨binding, mark, ?_, ?_⟩
  · obtain rfl | rfl := damaged
    · exact clearD
    · exact (BitVec.getLsbD_or ..).trans (by rw [clearD, bit]; rfl)
  · obtain rfl | rfl := rejected
    · exact clearR
    · exact (BitVec.getLsbD_or ..).trans (by rw [clearR, bit]; rfl)

/-- The lowest FREE record is among those a start left to this slot and the ones before it. -/
theorem findFree_le (h : s.Unread k.val) {i : RecIdx} (free : s.findFree = some i) : i.val ≤ k.val := by
  by_contra later
  have bound : k.val < 64 := by omega
  refine ((s.findFree_eq_some i).1 free).2 ⟨k.val, bound⟩ (Nat.lt_of_not_le later) ?_
  rw [WindowRecord.window, (h.records ⟨k.val, bound⟩ (le_refl _)).1]

end State.Unread

namespace State.InStart

variable {s : State} {k : SlotIdx}

theorem reportDamaged (h : s.InStart k.val) (supply : s.pins.supply = true) :
    (s.reportDamaged k).InStart (k.val + 1) := by
  have clear := ((h.unread supply).slots k (le_refl _)).2.2.2
  exact h.decide_slot (slotBit_disjoint h.reports clear) (fun i w hw => .inl (by simpa using hw))
    (fun unread => unread.report (.inr rfl) (.inl rfl)) rfl (by simp)

theorem reportRejected (h : s.InStart k.val) (supply : s.pins.supply = true) :
    (s.reportRejected k).InStart (k.val + 1) := by
  have clear := ((h.unread supply).slots k (le_refl _)).2.2.1
  have reports : s.startUp.damaged &&& (s.startUp.rejected ||| slotBit k) = 0 := by
    rw [BitVec.and_comm]
    exact slotBit_disjoint (by rw [BitVec.and_comm, h.reports]) clear
  exact h.decide_slot reports (fun i w hw => .inl (by simpa using hw))
    (fun unread => unread.report (.inl rfl) (.inr rfl)) rfl (by simp)

/-- A window that stands is issued into a record this slot may fill (R150). -/
theorem restoreWindow (h : s.InStart k.val) {w : Window} (standing : w.isStanding = true) (live : w.drain = none) :
    (s.restoreWindow k w).InStart (k.val + 1) := by
  unfold State.restoreWindow
  split
  · exact h.mono (Nat.le_succ _)
  · next i free =>
    refine h.decide_slot h.reports (fun j v hv => ?_) (fun unread => ⟨fun j hj => ?_, fun j hj => ?_⟩) rfl (by simp)
    · rw [State.setSlot_record, State.issue_record] at hv
      split at hv
      · exact .inr (Option.some.inj hv ▸ ⟨standing, live⟩)
      · exact .inl hv
    · have le := unread.findFree_le free
      rw [State.setSlot_record, State.issue_record, if_neg (fun e => by subst e; omega)]
      exact unread.records j (by omega)
    · have other : k ≠ j := fun e => by subst e; omega
      rw [State.setSlot_slot, if_neg other]
      exact unread.slots j (by omega)

theorem restoreSlot (h : s.InStart k.val) (supply : s.pins.supply = true) : (s.restoreSlot k).InStart (k.val + 1) := by
  unfold State.restoreSlot
  split
  · exact h.mono (Nat.le_succ _)
  · exact h.reportDamaged supply
  · split
    · exact h.reportRejected supply
    · next w hw =>
      split
      · exact h.restoreWindow (imageWindow_some _ _ _ hw).2 (imageWindow_drain _ _ _ hw)
      · exact h.reportRejected supply

/-- STARTING ends in the mode its flag says, at tick 0, with nothing on the clock (R147, R152). -/
theorem endStarting {n : Nat} (h : s.InStart n) (hold : s.startUp.hold = false) : s.endStarting.Running := by
  have clock : s.endStarting.clock = some 0 := by
    simp only [State.endStarting]
    split <;> simp
  have startUp : s.endStarting.startUp = s.startUp.finish s.pins.maint := by
    simp only [State.endStarting]
    split <;> simp
  have dormant : s.endStarting.Dormant := by
    have record : ∀ i, s.endStarting.record i = s.record i := fun i => by
      simp only [State.endStarting]
      split <;> simp [State.record]
    refine ⟨?_, fun m => ?_, fun i w hw => h.windows i w (record i ▸ hw)⟩
    · rw [← h.queue]
      simp only [State.endStarting]
      split <;> simp
    · rw [← h.sessions m]
      simp only [State.endStarting]
      split <;> simp [State.session]
  refine ⟨?_, by simp [clock], ?_, ?_, startUp ▸ h.reports, startUp ▸ hold, dormant.deadlineLaw⟩
  all_goals
    rw [State.mode, startUp, StartUp.finish]
    cases maint : s.pins.maint && decide (s.startUp.cause ≠ .soft)
  · nofun
  · nofun
  · simp
  · simp
  · nofun
  · exact fun _ => of_decide_eq_true ((Bool.and_eq_true _ _).mp maint).2

end State.InStart

end Sys2Proof.Machine
end

section
/-! PROOFS. Every command keeps the laws of the deadlines and of the start. -/

namespace Sys2Proof.Machine

/-! ### Requests -/

/-- An event is no request (R161). -/
theorem takeRequest_event (i : Instr) (s : State) (hp : requestParts i = none) : takeRequest i s = s := by
  cases i with
  | frameEnd | checkStrobe | checkRelease | tick | lapse | leaseExpiry | leaselowWarning | drainEnd | waitExpiry
  | slotEraseDone | slotProgramDone | clearDone | bandEraseDone | bandProgramDone | bandCellRead | slotRead | powerStart
  | powerOnHoldEnd | lineStart | resetRelease | supplyLoss | lselFall | lossOfRetention => rfl
  | _ => cases hp

/-- Outside STARTING a request keeps the laws, or begins a SOFT start. -/
theorem State.Running.takeRequest {s : State} (h : s.Running) (i : Instr) : (takeRequest i s).TimeSound := by
  cases hp : requestParts i with
  | none =>
    rw [takeRequest_event i s hp]
    exact .inr h
  | some parts =>
    obtain ⟨m, code, ops⟩ := parts
    cases turns : turnsSession i with
    | false => exact .inr ((h.renewSession m).of_keepsTime (takeRequest_keepsTime i s hp turns))
    | true =>
      cases i with
      | openSession m period => exact .inr (h.serve fun u hu => State.gated_keeps hu fun _ => hu.openAnswer m _)
      | close m => exact .inr (h.serve fun u hu => State.gated_keeps hu fun _ => hu.closeAnswer m)
      | evict m target => exact .inr (h.serve fun u hu => State.gated_keeps hu fun _ => hu.evictAnswer _)
      | restart m =>
        dsimp only [Machine.takeRequest]
        unfold takeRestart
        split
        · exact .inr (h.serve fun u hu => State.gated_keeps hu fun _ => hu)
        · exact .inl (State.InStart.softStart _)
      | _ => cases turns

/-- In STARTING a request is answered with nothing but its renewal, or begins a SOFT start (R24, R148). -/
theorem takeRequest_starting (i : Instr) {s : State} {m : Master} {code : Nat} {ops : List Word}
    (hp : requestParts i = some (m, code, ops)) (starting : s.mode = .starting) :
    (∃ r, takeRequest i s = (s.renewSession m).placeReply m r) ∨ takeRequest i s = (s.renewSession m).softStart := by
  obtain ⟨rest, served, -, -⟩ | ⟨-, restarted⟩ := takeRequest_cases i s m code ops hp
  · cases format : i.wellFormed with
    | true =>
      rw [served.wellFormed format, requestGate_starting i m s starting]
      exact .inl ⟨_, rfl⟩
    | false =>
      rw [served, format, serve_bad]
      exact .inl ⟨_, rfl⟩
  · exact .inr restarted

theorem State.InStart.takeRequest {s : State} (h : s.InStart s.engine.slotsRead) (i : Instr) :
    (takeRequest i s).TimeSound := by
  cases hp : requestParts i with
  | none =>
    rw [takeRequest_event i s hp]
    exact .inl h
  | some parts =>
    obtain ⟨m, code, ops⟩ := parts
    obtain ⟨r, answered⟩ | restarted := takeRequest_starting i hp h.mode
    · rw [answered, h.renewSession m]
      exact .inl (by simpa using h.of_frame (t := s.placeReply m r) (by simp))
    · rw [restarted]
      exact .inl (State.InStart.softStart _)

/-! ### The rules of the events -/

namespace State.KeepsTime

variable {s u : State}

theorem touch (h : s.KeepsTime u) (v : Verdict) : s.KeepsTime (u.touch v) := by
  unfold State.touch
  split
  · next i =>
    cases hw : (u.record i).window with
    | none => exact h
    | some w => exact h.setWindow_same (w' := { w with touched := true }) hw rfl rfl
  · exact h
  · exact h

theorem expireLease (h : s.KeepsTime u) (i : RecIdx) : s.KeepsTime (u.expireLease i) := by
  unfold State.expireLease
  split
  · exact (h.retire _ i).grantScan
  · exact h

/-- A warning marks the lease and leaves its deadline (R79). -/
theorem warnLease (h : s.KeepsTime u) (i : RecIdx) : s.KeepsTime (u.warnLease i) := by
  unfold State.warnLease
  split
  · exact h
  · next w hw =>
    split
    · refine (h.setWindow i fun hu => ?_).raise _ _
      have onTime := hu.windows i w hw
      unfold Window.warn
      split
      · next l hk =>
        rw [Window.OnTime, hk] at onTime
        exact onTime
      · exact onTime
      · exact onTime
    · exact h

theorem endDrain (h : s.KeepsTime u) (i : RecIdx) : s.KeepsTime (u.endDrain i) := by
  unfold State.endDrain
  split
  · exact h
  · split
    · exact (h.retire _ i).grantScan.kickEngine
    · exact h

theorem expireWait (h : s.KeepsTime u) (m : Master) (t : Word) : s.KeepsTime (u.expireWait m t) := by
  unfold State.expireWait
  split
  · exact (h.removeWaiters _ _).grantScan
  · exact h

theorem bandErased (h : s.KeepsTime u) : s.KeepsTime u.bandErased := by
  unfold State.bandErased
  split
  · exact h.of_frame (by simp)
  all_goals exact h

theorem bandProgrammed (h : s.KeepsTime u) : s.KeepsTime u.bandProgrammed := by
  unfold State.bandProgrammed
  split
  · next value _ =>
    have written : s.KeepsTime (u.setBand { u.band with cell := .valid value }) := h.of_frame (by simp)
    simp only []
    split
    · exact written.endOperation
    · have committed : s.KeepsTime ((u.setBand { u.band with cell := .valid value }).commitBand value) :=
        (State.KeepsTime.retireAll (written.of_frame (by simp)) _ _).grantScan
      exact committed.endOperation
  all_goals exact h

end State.KeepsTime

/-! ### Pieces the laws do not read -/

theorem State.TimeSound.of_frame {s t : State} (h : s.TimeSound) (frame : t.clock = s.clock ∧ t.startUp = s.startUp ∧
    t.table = s.table ∧ t.sessions = s.sessions ∧ t.queue = s.queue ∧ t.notices = s.notices ∧
    t.watches = s.watches ∧ t.pins.supply = s.pins.supply ∧ t.engine = s.engine ∧
    ∀ k, (t.slot k).binding = (s.slot k).binding ∧ (t.slot k).mark = (s.slot k).mark) : t.TimeSound := by
  rcases h with starting | running
  · have engine : t.engine = s.engine := frame.2.2.2.2.2.2.2.2.1
    exact .inl (engine ▸ starting.of_frame frame)
  · obtain ⟨clock, startUp, table, sessions, queue, -⟩ := frame
    exact .inr (running.of_keepsTime ((State.KeepsTime.refl s).of_frame ⟨clock, startUp, table,
      fun m => by rw [State.session, sessions]; rfl, fun e he => queue ▸ he⟩))

/-- A relation that leaves the time keeps the laws, where it is nothing in STARTING. -/
theorem State.TimeSound.of_keepsTime {s t : State} (h : s.TimeSound) (kept : s.KeepsTime t)
    (starting : s.InStart s.engine.slotsRead → t = s) : t.TimeSound := by
  rcases h with hs | running
  · rw [starting hs]
    exact .inl hs
  · exact .inr (running.of_keepsTime kept)

/-! ### The links and the check port -/

namespace State.TimeSound

variable {s : State}

theorem takeRequest (h : s.TimeSound) (i : Instr) : (takeRequest i s).TimeSound :=
  h.elim (·.takeRequest i) (·.takeRequest i)

theorem setLink (h : s.TimeSound) (m : Master) (l : Link) : (s.setLink m l).TimeSound := h.of_frame (by simp)

theorem placeReply (h : s.TimeSound) (m : Master) (r : Reply) : (s.placeReply m r).TimeSound := h.of_frame (by simp)

theorem renewSession (h : s.TimeSound) (m : Master) : (s.renewSession m).TimeSound := by
  rcases h with starting | running
  · rw [starting.renewSession m]
    exact .inl starting
  · exact .inr (running.renewSession m)

theorem takeFrame (h : s.TimeSound) (m : Master) : (s.takeFrame m).TimeSound := by
  simp only [State.takeFrame]
  split
  · exact h.placeReply m _
  · exact (h.renewSession m).placeReply m _
  · exact (h.renewSession m).placeReply m _
  · exact h.takeRequest _

theorem riseLsel (h : s.TimeSound) (m : Master) (ldi : Clocked) : (s.riseLsel m ldi).TimeSound := by
  unfold State.riseLsel
  split
  · simp only [State.endFrame]
    split
    · exact h.setLink m _
    · split
      · exact h.setLink m _
      · exact (h.setLink m _).takeFrame m
  · exact h.setLink m _

/-- A check sets a touched flag, notices and watches at most, and none of them in STARTING (R105, R106, R112). -/
theorem strobe (h : s.TimeSound) (a : Access) : (s.strobe a).TimeSound := by
  have seen : (s.setPins { s.pins with cstb := true }).TimeSound := h.of_frame (by simp)
  simp only [State.strobe]
  split
  · exact seen
  · have applied : ((s.setPins { s.pins with cstb := true }).applyVerdict a (s.verdict a)).TimeSound := by
      refine seen.of_keepsTime ?_ fun starting => ?_
      · have touched := (State.KeepsTime.refl (s.setPins { s.pins with cstb := true })).touch (s.verdict a)
        cases hm : checkMaster a.cmas with
        | none => rw [State.applyVerdict_noMaster _ a _ hm]; exact .refl _
        | some m => rw [State.applyVerdict_master _ a _ hm]; exact touched.of_frame (by simp)
      · rw [s.verdict_starting a starting.mode, State.applyVerdict_notReady]
    exact applied.of_frame (by simp)

theorem releaseStrobe (h : s.TimeSound) : s.releaseStrobe.TimeSound := by
  simp only [State.releaseStrobe]
  split <;> exact h.of_frame (by simp)

/-! ### The clock -/

/-- A tick that nothing is due on brings every deadline nearer (R76, R77). -/
theorem advance (h : s.TimeSound) : s.advance.TimeSound := by
  rcases h with starting | running
  · rw [State.advance_stopped starting.clock]
    exact .inl starting
  · obtain ⟨now, clock⟩ := Option.ne_none_iff_exists'.1 running.clock
    cases pending : s.expiryPending with
    | true =>
      rw [State.advance_waits pending]
      exact .inr running
    | false =>
      rw [State.advance_runs clock pending]
      obtain ⟨sessions, leases, drains, -, waits⟩ := s.expiryPending_eq_false_iff.1 pending
      refine .inr (running.of_startUp rfl nofun ((State.deadlineLaw_iff _).2 ⟨fun m => ?_, fun i w hw => ?_,
        fun e he => ?_⟩))
      · have timely := running.timely m
        rw [State.setClock_session]
        cases hx : (s.session m).state with
        | opened period deadline =>
          rw [hx] at timely
          obtain ⟨low, high, ahead⟩ := of_decide_eq_true timely
          exact decide_eq_true ⟨low, high, State.ahead_setClock clock (sessions m period deadline hx) ahead⟩
        | closed | lapsed => rfl
      · obtain ⟨kind, drain⟩ := running.onTime.windows i w hw
        refine ⟨?_, fun d hd => State.ahead_setClock clock (drains i w d hw hd) (drain d hd)⟩
        cases hk : w.kind with
        | timed l =>
          rw [hk] at kind
          obtain ⟨low, high, ahead⟩ := of_decide_eq_true kind
          exact decide_eq_true ⟨low, high, State.ahead_setClock clock (leases i w l hw hk) ahead⟩
        | session | standing k => rfl
      · obtain ⟨deadline, length⟩ := running.onTime.waiters e he
        refine ⟨?_, length⟩
        cases hd : e.deadline with
        | none => rfl
        | some d =>
          rw [hd] at deadline
          exact decide_eq_true (State.ahead_setClock clock (waits e d he hd) (of_decide_eq_true deadline))

end State.TimeSound

end Sys2Proof.Machine
end

section
/-! PROOFS. The expiries, the store phases, the starts and the supply keep the laws of the deadlines and of the start,
and so every step does. -/

namespace Sys2Proof.Machine

/-! ### Commands that do nothing in STARTING -/

/-- Without a tick nothing is due (R76). -/
theorem State.reached_of_stopped {s : State} (clock : s.clock = none) (t : Tick) : s.reached t = false := by
  simp [State.reached, clock]

section
variable {s : State} (clock : s.clock = none)
include clock

theorem State.lapse_stopped (m : Master) : s.lapse m = s :=
  if_neg (by simpa using (s.lapseDue_eq_false m).2 fun _ _ _ => by simp [clock])

theorem State.expireLease_stopped (i : RecIdx) : s.expireLease i = s :=
  State.expireLease_idle i fun w _ => (s.leaseDue_eq_false w).2 fun _ _ => by simp [clock]

theorem State.warnLease_stopped (i : RecIdx) : s.warnLease i = s :=
  State.warnLease_idle i fun w _ => (s.warningDue_eq_false w).2 fun _ _ running => absurd clock running

theorem State.endDrain_stopped (i : RecIdx) : s.endDrain i = s :=
  State.endDrain_idle i fun _ _ _ _ => by simp [clock]

theorem State.expireWait_stopped (m : Master) (t : Word) : s.expireWait m t = s :=
  State.expireWait_idle fun e _ _ _ => (s.waitDue_eq_false e).2 fun _ _ => by simp [clock]

end

/-- The engine neither writes nor clears. -/
def Engine.atRest : Engine → Prop
  | .idle | .reading _ => True
  | .erasingForWrite _ _ _ | .programmingSlot _ _ _ | .erasingForClear _ | .erasingBand _ | .programmingBand _ => False

section
variable {s : State} (rest : s.engine.atRest)
include rest

theorem State.slotErased_atRest : s.slotErased = s := by
  unfold State.slotErased
  split
  · next e => rw [e] at rest; exact rest.elim
  all_goals rfl

theorem State.slotProgrammed_atRest : s.slotProgrammed = s := by
  unfold State.slotProgrammed
  split
  · next e => rw [e] at rest; exact rest.elim
  all_goals rfl

theorem State.slotCleared_atRest : s.slotCleared = s := by
  unfold State.slotCleared
  split
  · next e => rw [e] at rest; exact rest.elim
  all_goals rfl

theorem State.bandErased_atRest : s.bandErased = s := by
  unfold State.bandErased
  split
  · next e => rw [e] at rest; exact rest.elim
  all_goals rfl

theorem State.bandProgrammed_atRest : s.bandProgrammed = s := by
  unfold State.bandProgrammed
  split
  · next e => rw [e] at rest; exact rest.elim
  all_goals rfl

theorem State.breakPhase_atRest : s.breakPhase = s := by
  unfold State.breakPhase
  cases e : s.engine with
  | idle | reading _ => rfl
  | _ => rw [e] at rest; exact rest.elim

end

/-- In STARTING the engine reads or is IDLE (R127, R147). -/
theorem Engine.lawful_starting {s : State} (engine : s.engine.lawful s = true) (starting : s.mode = .starting) :
    s.engine.atRest := by
  cases e : s.engine <;> simp [Engine.atRest, Engine.lawful, e, starting] at engine ⊢

/-- It reads in STARTING alone (R149). -/
theorem Engine.lawful_reading {s : State} (engine : s.engine.lawful s = true) {cell : Cell}
    (reading : s.engine = .reading cell) : s.mode = .starting := by
  rw [reading] at engine
  exact of_decide_eq_true engine

/-! ### The start-up read, the starts and the supply -/

namespace State.InStart

variable {s : State}

/-- A part whose engine reads holds no more (R147). -/
theorem not_hold {n : Nat} (h : s.InStart n) {cell : Cell} (reading : s.engine = .reading cell) :
    s.startUp.hold = false := by
  refine Bool.eq_false_iff.2 fun hold => ?_
  have idle := (h.hold hold).1
  rw [reading] at idle
  cases idle

theorem readBandCell (h : s.InStart s.engine.slotsRead) : s.readBandCell.TimeSound := by
  unfold State.readBandCell
  split
  · next reading =>
    have hold := h.not_hold reading
    have unread : ∀ b, (s.setBand b).InStart 0 := fun b => by
      rw [reading] at h
      exact h.of_frame (by simp)
    split
    · next b _ =>
      exact .inl ((unread { s.band with committed := b, pending := none, writeDue := false }).setEngine hold _)
    · have found := (unread { s.band with committed := 64, pending := some 64, writeDue := true }).setStartUp true id
      exact .inl (found.setEngine hold _)
  all_goals exact .inl h

/-- After slot 11 STARTING ends; before it the next slot is read (R149, R152). -/
theorem readSlot (h : s.InStart s.engine.slotsRead) (supply : s.pins.supply = true) (maint : Bool) :
    (s.readSlot maint).TimeSound := by
  unfold State.readSlot
  split
  · next k reading =>
    have here : s.InStart k.val := by
      rw [reading] at h
      exact h
    have decided := (here.of_frame (t := s.setPins { s.pins with maint := maint }) (by simp)).restoreSlot (by simpa)
    have hold : ((s.setPins { s.pins with maint := maint }).restoreSlot k).startUp.hold = false :=
      decided.not_hold (by simpa using reading)
    simp only []
    split
    · exact .inl (decided.setEngine hold _)
    · exact .inr (decided.endStarting hold)
  all_goals exact .inl h

theorem endHold (h : s.InStart s.engine.slotsRead) : s.endHold.TimeSound := by
  simp only [State.endHold]
  split
  · next hold =>
    have ended := h.setStartUp (hold := false) s.startUp.bandDamaged nofun
    split
    · exact .inl ended
    · rw [(h.hold hold).1] at ended
      exact .inl (ended.setEngine rfl _)
  · exact .inl h

theorem releaseReset (h : s.InStart s.engine.slotsRead) : s.releaseReset.TimeSound := by
  have seen : (s.setPins { s.pins with reset := false }).InStart s.engine.slotsRead := h.of_frame (by simp)
  simp only [State.releaseReset]
  split
  · next released =>
    obtain ⟨-, -, -, hold, idle⟩ := released
    rw [idle] at seen
    exact .inl (seen.setEngine hold _)
  · exact .inl seen

/-- Without supply the part stays in STARTING, with nothing of a read going on (R132). -/
theorem loseSupply (h : s.InStart s.engine.slotsRead) (rest : s.engine.atRest) : s.loseSupply.TimeSound := by
  have lost : s.loseSupply.InStart 0 := by
    rw [State.loseSupply, State.breakPhase_atRest rest]
    exact { h with hold := nofun, unread := nofun }
  exact .inl lost

end State.InStart

namespace State.Running

variable {s : State}

theorem lapse (h : s.Running) (m : Master) : (s.lapse m).Running := by
  unfold State.lapse
  split
  · have ended := h.endSession m .lapsed none (after := .lapsed) rfl
    exact ended.of_keepsTime ((State.KeepsTime.refl _).of_frame (by simp))
  · exact h

theorem releaseReset (h : s.Running) : s.releaseReset.Running := by
  simp only [State.releaseReset]
  rw [if_neg fun released => h.mode released.2.2.1]
  exact h.of_keepsTime ((State.KeepsTime.refl s).of_frame (by simp))

theorem loseSupply (h : s.Running) : s.loseSupply.Running := by
  have startUp : s.loseSupply.startUp = s.startUp := by
    rw [← show ({ s.startUp with hold := false } : StartUp) = s.startUp by rw [← h.hold]]
    simp [State.loseSupply]
  exact h.of_keepsTime ((State.KeepsTime.refl s).of_frame
    ⟨by simp [State.loseSupply], startUp, by simp [State.loseSupply], by simp [State.loseSupply],
      by simp [State.loseSupply]⟩)

end State.Running

namespace State.TimeSound

variable {s : State}

theorem lapse (h : s.TimeSound) (m : Master) : (s.lapse m).TimeSound := by
  rcases h with starting | running
  · rw [State.lapse_stopped starting.clock]
    exact .inl starting
  · exact .inr (running.lapse m)

theorem readBandCell (h : s.TimeSound) (engine : s.engine.lawful s = true) : s.readBandCell.TimeSound := by
  rcases h with starting | running
  · exact starting.readBandCell
  · unfold State.readBandCell
    split
    · next reading => exact absurd (Engine.lawful_reading engine reading) running.mode
    all_goals exact .inr running

theorem readSlot (h : s.TimeSound) (engine : s.engine.lawful s = true) (supply : s.pins.supply = true)
    (maint : Bool) : (s.readSlot maint).TimeSound := by
  rcases h with starting | running
  · exact starting.readSlot supply maint
  · unfold State.readSlot
    split
    · next reading => exact absurd (Engine.lawful_reading engine reading) running.mode
    all_goals exact .inr running

theorem endHold (h : s.TimeSound) : s.endHold.TimeSound := by
  rcases h with starting | running
  · exact starting.endHold
  · simp only [State.endHold]
    rw [if_neg (by simp [running.hold])]
    exact .inr running

theorem assertReset (h : s.TimeSound) : s.assertReset.TimeSound := by
  simp only [State.assertReset]
  split
  · exact .inl (State.InStart.beginStart (s.setPins { s.pins with reset := true }) .line false _ nofun)
  · exact h.of_frame (by simp)

theorem releaseReset (h : s.TimeSound) : s.releaseReset.TimeSound :=
  h.elim (·.releaseReset) fun running => .inr running.releaseReset

theorem loseSupply (h : s.TimeSound) (engine : s.engine.lawful s = true) : s.loseSupply.TimeSound :=
  h.elim (fun starting => starting.loseSupply (Engine.lawful_starting engine starting.mode))
    fun running => .inr running.loseSupply

/-- The image in a slot's cell is not what the slot is bound to or marked with (R123). -/
theorem loseRetention (h : s.TimeSound) (k : SlotIdx) (image : Image) : (s.loseRetention k image).TimeSound := by
  refine h.of_frame ⟨by simp, by simp, by simp, by simp, by simp, by simp, by simp, by simp, by simp, fun j => ?_⟩
  unfold State.loseRetention
  split
  · rw [State.setSlot_slot]
    split
    · next same => rw [same]; exact ⟨rfl, rfl⟩
    · exact ⟨rfl, rfl⟩
  · exact ⟨rfl, rfl⟩
  · exact ⟨rfl, rfl⟩

end State.TimeSound

/-! ### Every step -/

/-- Every command keeps the laws of the deadlines and of the start. -/
theorem exec_timeSound (c : Instr) {s t : State} (h : s.TimeSound) (engine : s.engine.lawful s = true)
    (hn : exec c s = .next t) : t.TimeSound := by
  have same := State.KeepsTime.refl s
  have rest := fun starting : s.InStart s.engine.slotsRead => Engine.lawful_starting engine starting.mode
  cases hr : requestParts c with
  | some parts =>
    rw [exec_request c s (by simp [hr])] at hn
    exact whenPowered_keeps h (fun _ => h.takeRequest c) hn
  | none =>
    cases c with
    | frameEnd link ldi => exact Host.Outcome.next.inj hn ▸ h.riseLsel link ldi
    | checkStrobe cmas cadr cspan cwr =>
      exact whenPowered_keeps (f := (·.strobe ⟨cmas, cadr, cspan, cwr⟩)) h (fun _ => h.strobe _) hn
    | checkRelease => exact whenPowered_keeps h (fun _ => h.releaseStrobe) hn
    | tick => exact whenPowered_keeps h (fun _ => h.advance) hn
    | lapse m => exact whenPowered_keeps h (fun _ => h.lapse m) hn
    | leaseExpiry i =>
      refine whenPowered_keeps h (fun _ => h.of_keepsTime (same.expireLease i) fun starting => ?_) hn
      exact State.expireLease_stopped starting.clock i
    | leaselowWarning i =>
      refine whenPowered_keeps (f := (·.warnLease i)) h (fun _ => h.of_keepsTime (same.warnLease i) fun starting => ?_) hn
      exact State.warnLease_stopped starting.clock i
    | drainEnd i =>
      refine whenPowered_keeps (f := (·.endDrain i)) h (fun _ => h.of_keepsTime (same.endDrain i) fun starting => ?_) hn
      exact State.endDrain_stopped starting.clock i
    | waitExpiry m ticket =>
      refine whenPowered_keeps h (fun _ => h.of_keepsTime (same.expireWait m ticket) fun starting => ?_) hn
      exact State.expireWait_stopped starting.clock m ticket
    | slotEraseDone =>
      refine whenPowered_keeps h (fun _ => h.of_keepsTime (same.of_frame (by simp)) fun starting => ?_) hn
      exact State.slotErased_atRest (rest starting)
    | slotProgramDone =>
      refine whenPowered_keeps h (fun _ => h.of_keepsTime (same.of_frame (by simp)) fun starting => ?_) hn
      exact State.slotProgrammed_atRest (rest starting)
    | clearDone =>
      refine whenPowered_keeps h (fun _ => h.of_keepsTime (same.of_frame (by simp)) fun starting => ?_) hn
      exact State.slotCleared_atRest (rest starting)
    | bandEraseDone =>
      refine whenPowered_keeps h (fun _ => h.of_keepsTime same.bandErased fun starting => ?_) hn
      exact State.bandErased_atRest (rest starting)
    | bandProgramDone =>
      refine whenPowered_keeps h (fun _ => h.of_keepsTime same.bandProgrammed fun starting => ?_) hn
      exact State.bandProgrammed_atRest (rest starting)
    | bandCellRead => exact whenPowered_keeps h (fun _ => h.readBandCell engine) hn
    | slotRead maint =>
      exact whenPowered_keeps (f := (·.readSlot maint)) h (fun supply => h.readSlot engine supply maint) hn
    | powerStart =>
      exact Host.Outcome.next.inj hn ▸ .inl (State.InStart.beginStart s .power true _ fun _ => rfl)
    | powerOnHoldEnd => exact whenPowered_keeps h (fun _ => h.endHold) hn
    | lineStart => exact Host.Outcome.next.inj hn ▸ h.assertReset
    | resetRelease => exact Host.Outcome.next.inj hn ▸ h.releaseReset
    | supplyLoss => exact whenPowered_keeps h (fun _ => h.loseSupply engine) hn
    | lselFall link => exact Host.Outcome.next.inj hn ▸ h.of_frame (by simp)
    | lossOfRetention slot image => exact Host.Outcome.next.inj hn ▸ h.loseRetention slot image
    | _ => cases hr

/-- A lawful state keeps the laws of the deadlines and of the start, and its engine is lawful. -/
theorem State.safe.timeSound {s : State} (h : s.safe) : s.TimeSound ∧ s.engine.lawful s = true := by
  obtain ⟨-, -, -, -, -, -, -, ⟨engine, -⟩, -, -, deadlines, -, start⟩ := h
  exact ⟨State.timeSound_of_laws deadlines start, engine⟩

/-- Every step keeps the laws of the deadlines and of the start. -/
theorem step_timeSound {s t : State} (h : s.safe) (hn : step s = .next t) : t.TimeSound := by
  rcases step_cases hn with rfl | ⟨c, rest, hc⟩
  · exact (State.safe.timeSound h).1
  · obtain ⟨time, engine⟩ := State.safe.timeSound (State.safe.with_pending h rest)
    exact exec_timeSound c time engine hc

end Sys2Proof.Machine

open Sys2Proof Sys2Proof.Machine

/-- Settles O60: in STARTING there is no deadline and only starts and the read go on; outside it every command keeps the
clock and start-up control, sets deadlines of operands in range, and TICK passes none. -/
theorem timeLawKept : Obligations.TimeLawKept := fun _ _ h hn => (step_timeSound h hn).laws

end

section
/-! PROOFS. The session test and the privilege test (R68, R82), and NOP, KEEPALIVE and OPEN (R69, R71). -/

namespace Sys2Proof.Machine

/-! ### The session test and the privilege test -/

theorem inMaintenance_of_testsSession {i : Instr} (h : i.testsSession = true) : i.inMaintenance = false := by
  cases i with
  | nop | status | noticeRead | noticeAck | noticeEnable => cases h
  | _ => rfl

theorem testsSession_of_isSupervisor {i : Instr} (h : i.isSupervisor = true) : i.testsSession = true := by
  cases i with
  | quota | revoke | evict | restart | band | purge => rfl
  | _ => cases h

section
variable {i : Instr} {s : State} {m : Master}

/-- Past the part-mode tests a request that tests the session is decided by that test, if it is not privileged. -/
theorem requestGate_testsSession (ht : s.takes m) (tests : i.testsSession = true)
    (privileged : i.isSupervisor = true → m = 0) : requestGate i m s = s.sessionGate m := by
  have part := s.partGate_none m ht
  rw [requestGate, if_neg (by simp [inMaintenance_of_testsSession tests])]
  by_cases supervisor : i.isSupervisor = true
  · rw [if_pos supervisor, State.supervisorGate, part]
    exact if_pos (privileged supervisor)
  · rw [if_neg supervisor, if_pos tests, State.openGate, part]

/-- A supervisor request of another master fails ahead of the session test (R82). -/
theorem requestGate_privileged (ht : s.takes m) (supervisor : i.isSupervisor = true) (hm : m ≠ 0) :
    requestGate i m s = some .privileged := by
  rw [requestGate, if_neg (by simp [inMaintenance_of_testsSession (testsSession_of_isSupervisor supervisor)]),
    if_pos supervisor, State.supervisorGate, s.partGate_none m ht]
  exact if_neg hm

end

theorem State.sessionGate_closed {s : State} {m : Master} (h : (s.session m).state = .closed) :
    s.sessionGate m = some .noSession := by
  rw [State.sessionGate, h]

theorem State.sessionGate_lapsed {s : State} {m : Master} (h : (s.session m).state = .lapsed) :
    s.sessionGate m = some .lapsed := by
  rw [State.sessionGate, h]

/-! ### OPEN -/

section
variable {s : State} {m : Master}

theorem exec_openSession (period : Word) (ht : s.takes m) : exec (.openSession m period) s =
    .next ((openAnswer m period.toNat (s.renewSession m)).reply m 0x03) := by
  refine (whenPowered_next _ s ht.1).trans ?_
  rw [takeOpenSession, serve_gated _ _ (·.partGate m) _ _ (renewed_partGate ht)]

theorem openAnswer_range (m : Master) {period : Nat} (s : State) (h : period < 10 ∨ 60000 < period) :
    openAnswer m period s = s.refuse .badOperand := if_pos h

variable {period : Nat} (low : 10 ≤ period) (high : period ≤ 60000)
include low high

theorem openAnswer_inRange_isOpen (opened : (s.session m).state.isOpen = true) :
    openAnswer m period s = s.refuse .alreadyOpen := by
  rw [openAnswer, Config.minPeriod, Config.maxTicks, if_neg (by omega)]
  cases hx : (s.session m).state with
  | opened => rfl
  | closed | lapsed => rw [hx] at opened; cases opened

/-- A session that is not OPEN is opened, and its state before is the result (R69). -/
theorem openAnswer_inRange_shut (shut : (s.session m).state.isOpen = false) : openAnswer m period s =
    (s.setSessionState m (.opened period (s.after period))).ok [if (s.session m).state = .lapsed then 1 else 0] := by
  rw [openAnswer, Config.minPeriod, Config.maxTicks, if_neg (by omega)]
  cases hx : (s.session m).state with
  | opened => rw [hx] at shut; cases shut
  | closed | lapsed => rfl

end

end Sys2Proof.Machine

open Sys2Proof Sys2Proof.Machine

/-- Settles O6: past the part-mode tests, PRIVILEGED and then the session test are all of a request's gate. -/
theorem sessionTests : Obligations.SessionTests := by
  intro i s m code ops hp ht wellFormed
  have refused := fun st => refusedWith_of_requestGate (st := st) hp ht.1 wellFormed
  refine ⟨fun tests privileged => ?_, fun supervisor hm => refused _ (requestGate_privileged ht supervisor hm)⟩
  have gate := requestGate_testsSession ht tests privileged
  exact ⟨fun closed => refused _ (gate.trans (State.sessionGate_closed closed)),
    fun lapsed => refused _ (gate.trans (State.sessionGate_lapsed lapsed))⟩

/-- Settles O13, from the gates of NOP and KEEPALIVE and the cases of `openAnswer`. -/
theorem sessionRequests : Obligations.SessionRequests := by
  refine ⟨fun m s supply running => ?_, fun m s ho => ?_, fun m period s ht => ⟨fun range => ?_, fun low high =>
    ⟨fun opened => ?_, fun shut => ?_⟩⟩⟩
  · refine (whenPowered_next _ s supply).trans ?_
    rw [takeNop, serve_gated _ _ (·.readyGate) _ _ (by rw [State.renewSession_readyGate, s.readyGate_none running])]
    rfl
  · refine (whenPowered_next _ s ho.1.1).trans ?_
    rw [takeKeepalive, serve_gated _ _ (·.openGate m) _ _ (renewed_openGate ho)]
    rfl
  · rw [refusedWith, answered, exec_openSession period ht, openAnswer_range m _ range]
    rfl
  · have renewed := (s.renewSession_isOpen m m).trans opened
    rw [refusedWith, answered, exec_openSession period ht, openAnswer_inRange_isOpen low high renewed]
    rfl
  · rw [answered, exec_openSession period ht, s.renewSession_closed m shut, openAnswer_inRange_shut low high shut]
    rfl

end

section
/-! PROOFS. The tests at the end of a frame (R161, R162) on the words it stored, in the words of the manual. -/

namespace Sys2Proof.Machine

/-! ### The fields of a command word -/

section
variable (w : Word)

theorem commandWord_count : (w.extractLsb' 0 4).toNat = w.toNat % 16 := by
  simp [BitVec.extractLsb'_toNat]

theorem commandWord_code : (w.extractLsb' 8 8).toNat = w.toNat / 256 := by
  have := w.isLt
  rw [BitVec.extractLsb'_toNat, Nat.shiftRight_eq_div_pow]
  omega

theorem commandWord_echo : w.extractLsb' 8 8 = BitVec.ofNat 8 (w.toNat / 256) := by
  rw [← commandWord_code, BitVec.ofNat_toNat, BitVec.setWidth_eq]

theorem commandWord_spare : w.extractLsb' 4 4 = 0 ↔ w.toNat / 16 % 16 = 0 := by
  rw [← BitVec.toNat_inj, BitVec.extractLsb'_toNat, Nat.shiftRight_eq_div_pow]
  rfl

end

/-! ### The command list -/

/-- Of the frames with a code of the list, those with another operand count than the list's are no requests (R162). -/
theorem requestOf_count (m : Master) (ops : List Word) (p : Nat × Nat) (hp : p ∈ commandList)
    (h : ops.length ≠ p.2) : requestOf m p.1 ops = none := by
  fin_cases hp
  all_goals
    rcases ops with - | ⟨a, - | ⟨b, - | ⟨c, - | ⟨d, - | ⟨e, - | ⟨f, rest⟩⟩⟩⟩⟩⟩
    any_goals rfl
    exact absurd rfl h

section
variable (m : Master) (command : Word) (ops : List Word)

theorem handover_unknown (h : command.toNat / 256 ∉ commandList.map Prod.fst) :
    handover m command ops = .unknown := by
  rw [← commandWord_code] at h
  exact if_pos h

/-- A listed code is refused for its spare bits or for its operand count (R162). -/
theorem handover_badOperand (listed : command.toNat / 256 ∈ commandList.map Prod.fst)
    (h : command.toNat / 16 % 16 ≠ 0 ∨ (command.toNat / 256, ops.length) ∉ commandList) :
    handover m command ops = .badOperand := by
  have code := commandWord_code command
  simp only [handover]
  rw [if_neg (by rw [code]; exact not_not.2 listed)]
  by_cases spare : command.toNat / 16 % 16 = 0
  · rw [if_neg (not_not.2 ((commandWord_spare command).2 spare)), code]
    obtain ⟨p, hp, same⟩ := List.mem_map.1 listed
    have count : ops.length ≠ p.2 := fun e => h.elim (· spare) (· (by rw [e, ← same]; exact hp))
    rw [← same, requestOf_count m ops p hp count]
  · exact if_pos (mt (commandWord_spare command).1 spare)

end

/-! ### The tests of R161 -/

/-- A frame of these words, its first with this operand count, is not well formed: overlong, short, with a wrong check
word, or with a later word other than 0x0000. -/
def FrameMalformed (words : List Word) (n : Nat) : Prop :=
  8 < n ∨ words.length < n + 2 ∨ words[n + 1]? ≠ some (checkWord (words.take (n + 1))) ∨
    ∃ w ∈ words.drop (n + 2), w ≠ 0

/-- A later word other than 0x0000 is among the words stored after the check word or among those not stored. -/
theorem later_nonzero_iff (words : List Word) {n : Nat} (hn : n ≤ 8) :
    ((∃ w ∈ words.drop 10, w ≠ 0) ∨ ((words.take 10).drop (n + 2)).any (· ≠ 0) = true) ↔
      ∃ w ∈ words.drop (n + 2), w ≠ 0 := by
  have cut : words.drop (n + 2) = (words.take 10).drop (n + 2) ++ words.drop 10 := by
    have h := List.take_append_drop (10 - (n + 2)) (words.drop (n + 2))
    rw [List.drop_drop, Nat.add_sub_cancel' (show n + 2 ≤ 10 by omega)] at h
    rw [List.drop_take, h]
  rw [cut]
  simp only [decide_eq_true_eq, List.any_eq_true, List.mem_append, or_and_right, exists_or]
  exact or_comm

/-- The tests of R161 on the ten words stored are those on the words received (R158). -/
theorem checkFrame_stored (m : Master) (first : Word) (rest : List Word) :
    checkFrame m ((first :: rest).take 10) (first :: rest).length
        (decide (∃ w ∈ (first :: rest).drop 10, w ≠ 0)) =
      if 8 < first.toNat % 16 then .frameError
      else if (first :: rest).length < first.toNat % 16 + 2 then .frameError
      else if (first :: rest)[first.toNat % 16 + 1]? ≠
        some (checkWord ((first :: rest).take (first.toNat % 16 + 1))) then .frameError
      else if ∃ w ∈ (first :: rest).drop (first.toNat % 16 + 2), w ≠ 0 then .frameError
      else handover m first (((first :: rest).take (first.toNat % 16 + 1)).drop 1) := by
  rw [show (first :: rest).take 10 = first :: rest.take 9 from rfl]
  simp only [checkFrame, commandWord_count]
  by_cases overlong : 8 < first.toNat % 16
  · rw [if_pos overlong, if_pos overlong]
  · have few : first.toNat % 16 ≤ 8 := Nat.le_of_not_lt overlong
    have check : (first :: rest.take 9)[first.toNat % 16 + 1]? = (first :: rest)[first.toNat % 16 + 1]? :=
      List.getElem?_take_of_lt (l := first :: rest) (j := 10) (by omega)
    have body : (first :: rest.take 9).take (first.toNat % 16 + 1) =
        (first :: rest).take (first.toNat % 16 + 1) := by
      rw [show first :: rest.take 9 = (first :: rest).take 10 from rfl, List.take_take, Nat.min_eq_left (by omega)]
    have later := later_nonzero_iff (first :: rest) few
    rw [show (first :: rest).take 10 = first :: rest.take 9 from rfl] at later
    rw [check, body]
    simp only [decide_eq_true_eq, later]

section
variable (m : Master) (first : Word) (rest : List Word)

/-- A malformed frame is a FRAME_ERROR (R161). -/
theorem checkFrame_malformed (h : FrameMalformed (first :: rest) (first.toNat % 16)) :
    checkFrame m ((first :: rest).take 10) (first :: rest).length
      (decide (∃ w ∈ (first :: rest).drop 10, w ≠ 0)) = .frameError := by
  rw [checkFrame_stored]
  split_ifs with overlong short check later
  · rfl
  · rfl
  · rfl
  · rfl
  · exact (h.elim overlong fun h => h.elim short fun h => h.elim check later).elim

/-- A frame that is not malformed is handed over with its operands (R161, R162). -/
theorem checkFrame_wellFormed (h : ¬ FrameMalformed (first :: rest) (first.toNat % 16)) :
    checkFrame m ((first :: rest).take 10) (first :: rest).length
      (decide (∃ w ∈ (first :: rest).drop 10, w ≠ 0)) =
      handover m first (((first :: rest).take (first.toNat % 16 + 1)).drop 1) := by
  simp only [FrameMalformed, not_or] at h
  obtain ⟨overlong, short, check, later⟩ := h
  rw [checkFrame_stored, if_neg overlong, if_neg short, if_neg check, if_neg later]

theorem operands_length (h : ¬ FrameMalformed (first :: rest) (first.toNat % 16)) :
    (((first :: rest).take (first.toNat % 16 + 1)).drop 1).length = first.toNat % 16 := by
  have long : ¬ (first :: rest).length < first.toNat % 16 + 2 := fun short => h (.inr (.inl short))
  rw [List.length_drop, List.length_take, Nat.min_eq_left (by omega), Nat.add_sub_cancel]

end

/-! ### The end of the frame -/

/-- The link of a frame of these words after the rise of LSEL (R158 to R160). -/
def Link.afterFrame (l : Link) (bits : List Bool) (words : List Word) : Link :=
  { l with
    phase := .idle, buffer := words.take 10, wordCount := words.length,
    lateNonzero := decide (∃ w ∈ words.drop 10, w ≠ 0), reply := none,
    ldo := none, ldoBits := shiftedOut l.shiftOut (bits.length + 1),
    ldoRead := shiftedOut l.shiftOut bits.length, lselLow := false }

theorem Link.received_words (l : Link) (bits : List Bool) {first : Word} {rest : List Word}
    (h : wordsOfBits bits = first :: rest) : l.received bits = l.afterFrame bits (first :: rest) := by
  rw [Link.received_eq, h, if_neg (List.cons_ne_nil _ _)]
  rfl

/-- What the tests found in the stored words, as the state the frame leaves (R161, R162). -/
def State.answerFrame (s : State) (m : Master) (echo : BitVec 8) : FrameResult → State
  | .frameError => s.placeReply m ⟨.frameError, echo, []⟩
  | .unknown => (s.renewSession m).placeReply m ⟨.unknown, echo, []⟩
  | .badOperand => (s.renewSession m).placeReply m ⟨.badOperand, echo, []⟩
  | .request i => takeRequest i s

theorem exec_frameEnd (s : State) (m : Master) (bits : List Bool) (ignored : Nat) {first : Word} {rest : List Word}
    (supplied : s.pins.supply = true) (receiving : (s.link m).phase = .receiving)
    (h : wordsOfBits bits = first :: rest) :
    exec (.frameEnd m ⟨bits, ignored⟩) s =
      .next ((s.setLink m ((s.link m).afterFrame bits (first :: rest))).answerFrame m
        (BitVec.ofNat 8 (first.toNat / 256))
        (checkFrame m ((first :: rest).take 10) (first :: rest).length
          (decide (∃ w ∈ (first :: rest).drop 10, w ≠ 0)))) := by
  have rises : exec (.frameEnd m ⟨bits, ignored⟩) s = .next (s.riseLsel m ⟨bits, ignored⟩) := rfl
  rw [rises, State.riseLsel_receiving s m bits ignored supplied receiving,
    if_neg (by rw [h]; exact List.cons_ne_nil _ _), Link.received_words _ _ h, State.takeFrame,
    State.setLink_link_same, ← commandWord_echo]
  rfl

end Sys2Proof.Machine

open Sys2Proof Sys2Proof.Machine

/-- Settles O11: the ten words stored decide the tests as the words received do, so the tests go through by name. -/
theorem frameEndErrors : Obligations.FrameEndErrors := by
  intro s m bits ignored first rest supplied receiving h words n code ended malformed
  have ends := exec_frameEnd s m bits ignored supplied receiving h
  refine ⟨fun bad => ?_, fun good unlisted => ?_, fun good listed wrong => ?_⟩
  · rw [ends, checkFrame_malformed m first rest bad]
    rfl
  · rw [ends, checkFrame_wellFormed m first rest good, handover_unknown m first _ unlisted]
    rfl
  · have refused := handover_badOperand m first ((words.take (n + 1)).drop 1) listed
      (by rw [operands_length first rest good]; exact wrong)
    rw [ends, checkFrame_wellFormed m first rest good, refused]
    rfl
end

section
/-! PROOFS. The session end of R72: what it takes from the master, what it leaves the others, and what each of its
parts leaves in the notices and slots. -/

namespace Sys2Proof.Machine

/-! ### Retiring windows without a slot, with or without a notice -/

section
variable (s : State) (cause : RetireCause)

/-- A retire puts no window in force (R17). -/
theorem State.window_of_retire {i j : RecIdx} {w : Window} (h : ((s.retire cause i).record j).window = some w) :
    (s.record j).window = some w := by
  cases hi : (s.record i).window with
  | none => rwa [s.retire_free cause i hi] at h
  | some v =>
    rw [s.retire_record cause i v hi] at h
    split at h
    · cases h
    · exact h

/-- Retires of SESSION and TIMED windows touch no slot (R19). -/
theorem State.retireAll_slots (l : List RecIdx)
    (temporary : ∀ i ∈ l, ∀ w, (s.record i).window = some w → w.isStanding = false) :
    (s.retireAll cause l).slots = s.slots := by
  induction l generalizing s with
  | nil => rfl
  | cons i l ih =>
    have first : (s.retire cause i).slots = s.slots := by
      cases hi : (s.record i).window with
      | none => rw [s.retire_free cause i hi]
      | some w => exact s.retire_slots cause hi (temporary i List.mem_cons_self w hi)
    have rest := ih (s.retire cause i) fun j hj w hw =>
      temporary j (List.mem_cons_of_mem i hj) w (s.window_of_retire cause hw)
    exact rest.trans first

/-- Retires with a cause that has no notice raise none (R18). -/
theorem State.retireAll_notices (l : List RecIdx) (silent : cause.notice = none) :
    (s.retireAll cause l).notices = s.notices := by
  refine List.foldlRecOn (motive := fun t : State => t.notices = s.notices) _ _ rfl fun t ht i _ => ?_
  cases hi : (t.record i).window with
  | none => rwa [t.retire_free cause i hi]
  | some w => rw [t.retire_notices cause hi, silent, State.raiseIf_none, ht]

end

/-! ### The state the grant scan of a session end starts from -/

/-- Steps 1 and 2 of the session end: the windows retired and the waiters removed (R72). -/
def State.dispossess (s : State) (m : Master) (cause : RetireCause) (fail : Option FailCause) : State :=
  (s.retireAll cause (s.recordsWhere fun _ w => endsWith m w)).removeWaiters fail fun e => decide (e.master = m)

/-- Steps 1 to 4 of the session end: all of it but the grant scan (R72). -/
def State.expel (s : State) (m : Master) (cause : RetireCause) (fail : Option FailCause) (after : SessionState) :
    State :=
  ((s.dispossess m cause fail).freeWatches m).setSessionState m after

section
variable (s : State) (m : Master) (cause : RetireCause) (fail : Option FailCause) (after : SessionState)

theorem State.endSession_eq : s.endSession m cause fail after = (s.expel m cause fail after).grantScan := rfl

theorem endsWith_iff (w : Window) : endsWith m w = true ↔ w.owner = m ∧ w.isStanding = false := by
  simp [endsWith]

theorem WatchRecord.without_eq (r : WatchRecord) : r.without m = match r with
    | .armed w => if w.owner = m then .free else .armed w
    | .free => .free := by
  cases r <;> rfl

/-- A window of another master, and a STANDING window, is left in force (R72). -/
theorem State.expel_record_kept {i : RecIdx} {w : Window} (hw : (s.record i).window = some w)
    (spared : w.owner ≠ m ∨ w.isStanding = true) : (s.expel m cause fail after).record i = s.record i := by
  have untouched : i ∉ s.recordsWhere fun _ w => endsWith m w := by
    intro h
    obtain ⟨v, hv, ends⟩ := (s.mem_recordsWhere _ i).1 h
    obtain ⟨owner, temporary⟩ := (endsWith_iff m v).1 ends
    rw [Option.some.inj (hw.symm.trans hv)] at spared
    exact spared.elim (· owner) fun standing => by simp [standing] at temporary
  simpa [State.expel, State.dispossess] using s.retireAll_record_of_notMem cause _ i untouched

/-- A SESSION or TIMED window of the master is retired with the cause (R72). -/
theorem State.expel_record_retired {i : RecIdx} {w : Window} (hw : (s.record i).window = some w) (owner : w.owner = m)
    (temporary : w.isStanding = false) :
    (s.expel m cause fail after).record i = ⟨(s.record i).generation, .free (some cause)⟩ := by
  have taken := (s.mem_recordsWhere (fun _ w => endsWith m w) i).2
    ⟨w, hw, (endsWith_iff m w).2 ⟨owner, temporary⟩⟩
  simpa [State.expel, State.dispossess] using s.retireAll_record_of_mem cause _ i w taken hw

theorem State.expel_queue : (s.expel m cause fail after).queue = s.queue.filter fun e => decide (e.master ≠ m) := by
  simp [State.expel, State.dispossess]

theorem State.expel_noEntry : ∀ e ∈ (s.expel m cause fail after).queue, e.master ≠ m := by
  intro e he
  rw [State.expel_queue] at he
  simpa using (List.mem_filter.1 he).2

theorem State.expel_clock : (s.expel m cause fail after).clock = s.clock := by
  simp [State.expel, State.dispossess]

theorem State.expel_slots : (s.expel m cause fail after).slots = s.slots := by
  have retired := s.retireAll_slots cause (s.recordsWhere fun _ w => endsWith m w) fun i hi w hw => by
    obtain ⟨v, hv, ends⟩ := (s.mem_recordsWhere _ i).1 hi
    rw [Option.some.inj (hw.symm.trans hv)]
    exact ((endsWith_iff m v).1 ends).2
  simpa [State.expel, State.dispossess] using retired

theorem State.expel_session (k : Master) : (s.expel m cause fail after).session k =
    if m = k then { s.session m with state := after } else s.session k := by
  simp [State.expel, State.dispossess, State.setSessionState, State.setSession_session]

theorem State.expel_watch (k : WatchIdx) : (s.expel m cause fail after).watch k = (s.watch k).without m := by
  simp [State.expel, State.dispossess, State.freeWatches, State.watch]

theorem State.expel_notices_silent (silent : cause.notice = none) :
    (s.expel m cause none after).notices = s.notices :=
  s.retireAll_notices cause _ silent

theorem State.expel_failureList_none (k : Master) :
    (s.expel m cause none after).failureList k = s.failureList k :=
  s.retireAll_failureList cause _ k

theorem State.expel_failureList_some (c : FailCause) : (s.expel m cause (some c) after).failureList m =
    ((s.queue.filter fun e => e.master = m).map fun e => Failure.mk e.ticket c).foldl newestFour (s.failureList m) := by
  simp [State.expel, State.dispossess, State.removeWaiters_failureList]

end

/-! ### The session end -/

section
variable (s : State) (m : Master) (cause : RetireCause) (fail : Option FailCause) (after : SessionState)

/-- The grant scan of a session end touches nothing of the master, which has no entry left. -/
theorem State.endSession_failureList :
    (s.endSession m cause fail after).failureList m = (s.expel m cause fail after).failureList m :=
  ((s.expel m cause fail after).grantScan_other m (s.expel_noEntry m cause fail after)).2.1

theorem State.endSession_notice :
    (s.endSession m cause fail after).notice m = (s.expel m cause fail after).notice m :=
  ((s.expel m cause fail after).grantScan_other m (s.expel_noEntry m cause fail after)).2.2

/-- A window the session end spares goes through the grant scan as it is. -/
theorem State.endSession_record_kept {i : RecIdx} {w : Window} (hw : (s.record i).window = some w)
    (spared : w.owner ≠ m ∨ w.isStanding = true) : (s.endSession m cause fail after).record i = s.record i := by
  have kept := s.expel_record_kept m cause fail after hw spared
  rw [State.endSession_eq, State.grantScan_record _ i (by rw [kept, hw]; exact Option.some_ne_none w), kept]

/-- A record the session end frees stays so, or is issued to an entry that is left. -/
theorem State.endSession_record_retired {i : RecIdx} {w : Window} (hw : (s.record i).window = some w)
    (owner : w.owner = m) (temporary : w.isStanding = false) :
    (s.endSession m cause fail after).record i = ⟨(s.record i).generation, .free (some cause)⟩ ∨
      ∃ e ∈ s.queue, e.master ≠ m ∧ (s.endSession m cause fail after).record i =
        ⟨nextGeneration (s.record i).generation, .held (s.grantedWindow e)⟩ := by
  have retired := s.expel_record_retired m cause fail after hw owner temporary
  have clock := s.expel_clock m cause fail after
  rcases (s.expel m cause fail after).grantScan_record_free i (by rw [retired]; rfl) with same | ⟨e, he, issued⟩
  · exact .inl (same.trans retired)
  · refine .inr ⟨e, ?_, s.expel_noEntry m cause fail after e he, ?_⟩
    · rw [State.expel_queue] at he
      exact List.mem_of_mem_filter he
    · rw [State.endSession_eq, issued, retired, State.grantedWindow_congr clock]

theorem State.endSession_queue : (s.endSession m cause fail after).queue.Sublist s.queue := by
  have kept : (s.expel m cause fail after).queue.Sublist s.queue := by
    rw [State.expel_queue]
    exact List.filter_sublist
  exact (State.grantScan_queue _).trans kept

theorem State.endSession_noEntry : ∀ e ∈ (s.endSession m cause fail after).queue, e.master ≠ m := fun e he =>
  s.expel_noEntry m cause fail after e ((State.grantScan_queue _).subset he)

theorem State.endSession_session (k : Master) : (s.endSession m cause fail after).session k =
    if m = k then { s.session m with state := after } else s.session k := by
  rw [State.endSession_eq, State.grantScan_session, State.expel_session]

end

end Sys2Proof.Machine

open Sys2Proof Sys2Proof.Machine

/-- Settles O14: each part of `State.expel` by its lemma, and the grant scan by what it leaves a master without an
entry, a record in force and a FREE record. -/
theorem sessionEndEffect : Obligations.SessionEndEffect := by
  intro s m cause fail after t
  have session := s.endSession_session m cause fail after
  refine ⟨?own, ?others, fun i w hw spared => s.endSession_record_kept m cause fail after hw spared,
    fun i w hw owner temporary => s.endSession_record_retired m cause fail after hw owner temporary,
    s.endSession_queue m cause fail after, s.endSession_noEntry m cause fail after, State.grantScan_waitLaw _,
    ?watches, ?quiet, ?failed, ?silent, ?links, ?clock, ?check, ?slots, ?engine, ?band, ?startUp, ?pins⟩
  case own => exact (session m).trans (if_pos rfl)
  case others => exact fun k hk => (session k).trans (if_neg hk.symm)
  case watches =>
    intro k
    exact (State.grantScan_watch _ k).trans ((s.expel_watch m cause fail after k).trans (WatchRecord.without_eq m _))
  case quiet =>
    rintro rfl
    exact (s.endSession_failureList m cause none after).trans (s.expel_failureList_none m cause after m)
  case failed =>
    rintro c rfl
    exact (s.endSession_failureList m cause (some c) after).trans (s.expel_failureList_some m cause after c)
  case silent =>
    rintro rfl silent
    rw [s.endSession_notice m cause none after, State.notice, s.expel_notices_silent m cause after silent]
    rfl
  case slots => exact (State.grantScan_slots _).trans (s.expel_slots m cause fail after)
  case links => exact s.endSession_links m cause fail after
  case clock => exact s.endSession_clock m cause fail after
  case check => exact s.endSession_check m cause fail after
  case engine => exact s.endSession_engine m cause fail after
  case band => exact s.endSession_band m cause fail after
  case startUp => exact s.endSession_startUp m cause fail after
  case pins => exact s.endSession_pins m cause fail after
end

section
/-! PROOFS. CLOSE, EVICT and LAPSE by the session's state (R70, R73, R93), and the notices of an eviction (R94). -/

namespace Sys2Proof.Machine

/-! ### The flags of an eviction -/

section
variable (s : State) (m : Master) (f : Flag)

theorem State.raise_flags : ((s.raise m f).notice m).flags = (s.notice m).flags ||| f.mask := by
  rw [State.raise_notice, if_pos rfl]
  rfl

/-- A flag raised once for each thing of a list is raised exactly when the list has one. -/
theorem flags_or_cons {α : Type} (flags mask : BitVec 12) (x : α) (l : List α) :
    (flags ||| mask ||| if l = [] then 0 else mask) = flags ||| if x :: l = [] then 0 else mask := by
  rw [if_neg (List.cons_ne_nil x l), BitVec.or_assoc]
  split <;> simp

/-- Retiring windows of a master with a noticed cause raises that notice, and no other, if there is a window. -/
theorem State.retireAll_flags {cause : RetireCause} (noticed : cause.notice = some f) {l : List RecIdx}
    (distinct : l.Nodup) (owned : ∀ i ∈ l, ∃ w, (s.record i).window = some w ∧ w.owner = m) :
    ((s.retireAll cause l).notice m).flags = (s.notice m).flags ||| if l = [] then 0 else f.mask := by
  induction l generalizing s with
  | nil => exact (BitVec.or_zero).symm
  | cons i l ih =>
    obtain ⟨fresh, distinct⟩ := List.nodup_cons.1 distinct
    obtain ⟨w, hw, owner⟩ := owned i List.mem_cons_self
    have raised : ((s.retire cause i).notice m).flags = (s.notice m).flags ||| f.mask := by
      rw [State.notice, s.retire_notices cause hw, noticed, owner]
      exact s.raise_flags m f
    have rest := ih (s.retire cause i) distinct fun j hj => by
      rw [s.retire_record_ne cause i j (ne_of_mem_of_not_mem hj fresh).symm]
      exact owned j (List.mem_cons_of_mem i hj)
    rw [raised] at rest
    exact rest.trans (flags_or_cons _ _ _ l)

theorem State.waitFail_flags (c : FailCause) (e : Waiter) :
    ((s.waitFail c e).notice e.master).flags = (s.notice e.master).flags ||| Flag.waitfail.mask := by
  rw [State.waitFail, State.raise_flags, State.setFailureList_notice]

/-- Removing entries of a master with a cause raises WAITFAIL, and no other notice, if there is an entry. -/
theorem foldl_waitFail_flags (c : FailCause) {l : List Waiter} (own : ∀ e ∈ l, e.master = m) :
    ((l.foldl (fun t e => t.waitFail c e) s).notice m).flags =
      (s.notice m).flags ||| if l = [] then 0 else Flag.waitfail.mask := by
  induction l generalizing s with
  | nil => exact (BitVec.or_zero).symm
  | cons e l ih =>
    have raised := s.waitFail_flags c e
    rw [own e List.mem_cons_self] at raised
    have rest := ih (s.waitFail c e) fun x hx => own x (List.mem_cons_of_mem e hx)
    rw [raised] at rest
    exact rest.trans (flags_or_cons _ _ _ l)

theorem State.removeWaiters_flags (c : FailCause) :
    ((s.removeWaiters (some c) fun e => decide (e.master = m)).notice m).flags = (s.notice m).flags |||
      if s.queue.all fun e => decide (e.master ≠ m) then 0 else Flag.waitfail.mask := by
  have none_iff : (s.queue.filter fun e => decide (e.master = m)) = [] ↔
      (s.queue.all fun e => decide (e.master ≠ m)) = true := by
    simp [List.filter_eq_nil_iff]
  refine (foldl_waitFail_flags _ m c fun e he => by simpa using (List.mem_filter.1 he).2).trans ?_
  simp only [none_iff]
  rfl

/-- A session end with a noticed cause and a fail cause raises the notice exactly when it retires a window, WAITFAIL
exactly when it removes an entry, and nothing else for the master (R72, R94). -/
theorem State.endSession_flags {cause : RetireCause} (noticed : cause.notice = some f) (c : FailCause)
    (after : SessionState) : ((s.endSession m cause (some c) after).notice m).flags =
      (s.notice m).flags ||| (if s.recordsWhere (fun _ w => endsWith m w) = [] then 0 else f.mask) |||
        (if s.queue.all fun e => decide (e.master ≠ m) then 0 else Flag.waitfail.mask) := by
  have owned : ∀ i ∈ s.recordsWhere fun _ w => endsWith m w, ∃ w, (s.record i).window = some w ∧ w.owner = m :=
    fun i hi => by
      obtain ⟨w, hw, ends⟩ := (s.mem_recordsWhere _ i).1 hi
      exact ⟨w, hw, ((endsWith_iff m w).1 ends).1⟩
  have distinct : (s.recordsWhere fun _ w => endsWith m w).Nodup := (List.nodup_finRange 64).filter _
  have retired := s.retireAll_flags m f noticed distinct owned
  rw [State.endSession_notice, State.expel, State.setSessionState_notice, State.freeWatches_notice, State.dispossess,
    State.removeWaiters_flags, retired, State.retireAll_queue]

end

/-! ### The answers by the session's state -/

section
variable {s : State} {m : Master}

/-- Giving a session the state it has changes nothing. -/
theorem State.setSessionState_same {x : SessionState} (h : (s.session m).state = x) : s.setSessionState m x = s := by
  subst h
  show { s with sessions := s.sessions.set m.val s.sessions[m.val] } = s
  rw [Vector.set_getElem_self]

theorem closeAnswer_open (opened : (s.session m).state.isOpen = true) :
    closeAnswer m s = (s.endSession m .closed none .closed).ok [] := by
  unfold closeAnswer
  cases hx : (s.session m).state with
  | opened => rfl
  | closed | lapsed => rw [hx] at opened; cases opened

theorem closeAnswer_shut (shut : (s.session m).state.isOpen = false) :
    closeAnswer m s = (s.setSessionState m .closed).ok [] := by
  unfold closeAnswer
  cases hx : (s.session m).state with
  | opened => rw [hx] at shut; cases shut
  | lapsed => rfl
  | closed => rw [State.setSessionState_same hx]

theorem State.length_recordsWhere (s : State) (p : RecIdx → Window → Bool) :
    (s.recordsWhere p).length = (List.finRange 64).countP fun i => (s.record i).window.any (p i) := by
  rw [List.countP_eq_length_filter, State.recordsWhere]

theorem evictTarget_open (opened : (s.session m).state.isOpen = true) : evictTarget m s =
    (s.endSession m .evicted (some .evicted) .closed).ok
      [word (s.recordsWhere fun _ w => endsWith m w).length, word (s.ticketsOf m).length] := by
  unfold evictTarget
  cases hx : (s.session m).state with
  | opened => rfl
  | closed | lapsed => rw [hx] at opened; cases opened

theorem evictTarget_shut (shut : (s.session m).state.isOpen = false) :
    evictTarget m s = (s.setSessionState m .closed).ok [0, 0] := by
  unfold evictTarget
  cases hx : (s.session m).state with
  | opened => rw [hx] at shut; cases shut
  | lapsed => rfl
  | closed => rw [State.setSessionState_same hx]; rfl

/-! ### The commands -/

theorem exec_close (ht : s.takes m) :
    exec (.close m) s = .next ((closeAnswer m (s.renewSession m)).reply m 0x04) := by
  refine (whenPowered_next _ s ht.1).trans ?_
  rw [takeClose, serve_gated _ _ (·.partGate m) _ _ (renewed_partGate ht)]

theorem exec_evict (target : Word) (ho : s.takesOpen 0) :
    exec (.evict 0 target) s = .next ((evictAnswer target (s.renewSession 0)).reply 0 0x42) := by
  refine (whenPowered_next _ s ho.1.1).trans ?_
  rw [takeEvict, serve_gated _ _ (·.supervisorGate 0) _ _ (renewed_supervisorGate ho)]

theorem evictAnswer_unknown (s : State) {target : Word} (h : 6 ≤ target.toNat) :
    evictAnswer target s = s.refuse .badOperand := by
  rw [evictAnswer, masterOf_eq_none target h]

theorem evictAnswer_master (s : State) {target : Word} {t : Master} (h : target.toNat = t.val) :
    evictAnswer target s = evictTarget t s := by
  rw [evictAnswer, masterOf_eq_some target t h]

theorem exec_lapse (supply : s.pins.supply = true) : exec (.lapse m) s = .next (s.lapse m) :=
  whenPowered_next _ s supply

theorem State.lapse_of_not_due (h : s.lapseDue m = false) : s.lapse m = s := if_neg (by simp [h])

theorem State.lapse_of_shut (shut : (s.session m).state.isOpen = false) : s.lapse m = s :=
  State.lapse_of_not_due ((s.lapseDue_eq_false m).2 fun _ _ opened => by rw [opened] at shut; cases shut)

theorem State.lapse_at_deadline {period : Nat} {deadline : Tick}
    (opened : (s.session m).state = .opened period deadline) (clock : s.clock = some deadline) :
    s.lapse m = (s.endSession m .lapsed none .lapsed).noticeLapse m := by
  refine if_pos ?_
  rw [State.lapseDue, opened]
  simp [State.reached, clock]

end

end Sys2Proof.Machine

open Sys2Proof Sys2Proof.Machine

/-- Settles O15: the cases of `closeAnswer`, `evictTarget` and `State.lapse`, and the flags of `State.endSession`. -/
theorem sessionEndCommands : Obligations.SessionEndCommands := by
  refine ⟨fun m s ht => ⟨fun opened => ?closeOpen, fun shut => ?closeShut⟩,
    fun target s ho => ⟨fun high => ?evictNone, fun t ht => ⟨fun opened => ?evictOpen, fun shut => ?evictShut⟩⟩,
    fun s t => ?evictFlags,
    fun m s supply shut => ?lapseShut,
    fun m s period deadline supply opened => ⟨fun clock => ?lapseDue, fun clock => ?lapseUndue⟩⟩
  case closeOpen =>
    rw [answered, exec_close ht, closeAnswer_open ((s.renewSession_isOpen m m).trans opened)]
    rfl
  case closeShut =>
    rw [answered, exec_close ht, s.renewSession_closed m shut, closeAnswer_shut shut]
    rfl
  case evictNone =>
    rw [refusedWith, answered, exec_evict target ho, evictAnswer_unknown _ high]
    rfl
  case evictOpen =>
    rw [answered, exec_evict target ho, evictAnswer_master _ ht,
      evictTarget_open ((s.renewSession_isOpen 0 t).trans opened), State.renewSession_recordsWhere,
      State.length_recordsWhere, State.length_ticketsOf, State.renewSession_queue]
    rfl
  case evictShut =>
    rw [answered, exec_evict target ho, evictAnswer_master _ ht,
      evictTarget_shut ((s.renewSession_isOpen 0 t).trans shut)]
    rfl
  case evictFlags => exact s.endSession_flags t .retired rfl .evicted .closed
  case lapseShut => rw [exec_lapse supply, State.lapse_of_shut shut]
  case lapseDue =>
    rw [exec_lapse supply, State.lapse_at_deadline opened clock]
    rfl
  case lapseUndue =>
    have undue : s.lapseDue m = false := (s.lapseDue_eq_false m).2 fun p d at_d => by
      rw [opened] at at_d
      cases at_d
      exact clock
    rw [exec_lapse supply, State.lapse_of_not_due undue]

end

section
/-! PROOFS. QUOTA: its tests in order and its effect (R83, R84). -/

namespace Sys2Proof.Machine

/-- QUOTA goes on to its own tests for master 0 (R82, R83). -/
theorem exec_quota {s : State} (target quota allowance : Word) (ho : s.takesOpen 0) :
    exec (.quota 0 target quota allowance) s = .next
      ((quotaAnswer target quota.toNat allowance.toNat (s.renewSession 0)).reply 0 0x40) := by
  refine (whenPowered_next _ s ho.1.1).trans ?_
  rw [takeQuota, serve_gated _ _ (·.supervisorGate 0) _ _ (renewed_supervisorGate ho)]

section
variable {target : Word} {quota allowance : Nat} {t : Master}

theorem quotaAnswer_badOperand (s : State) (bad : 6 ≤ target.toNat ∨ 16384 < quota ∨ 12 < allowance) :
    quotaAnswer target quota allowance s = s.refuse .badOperand := by
  rw [quotaAnswer]
  split
  case h_1 => rfl
  case h_2 named =>
    have known : ¬ 6 ≤ target.toNat := fun high => by
      rw [masterOf_eq_none target high] at named
      cases named
    exact if_pos (bad.resolve_left known)

/-- With operands in range QUOTA is decided by the target's usage, and a quota equal to the usage is accepted (R83). -/
theorem quotaAnswer_inRange (s : State) (ht : target.toNat = t.val) (hq : quota ≤ 16384) (ha : allowance ≤ 12) :
    quotaAnswer target quota allowance s =
      if quota < (s.tally t).usage then s.refuse .inUse
      else (s.setSession t { s.session t with quota := quota, allowance := allowance }).ok
        [word (s.session t).quota, word (s.session t).allowance] := by
  rw [quotaAnswer, masterOf_eq_some target t ht]
  exact if_neg (not_or.2 ⟨Nat.not_lt.2 hq, Nat.not_lt.2 ha⟩)

end

end Sys2Proof.Machine

open Sys2Proof Sys2Proof.Machine

/-- Settles O28: the operands' ranges decide BAD_OPERAND, then the target's usage decides between IN_USE and the
replacement; the renewal of master 0's session leaves the usage, the quotas and the allowances. -/
theorem quotaRequest : Obligations.QuotaRequest := by
  intro target quota allowance s ho
  have answer := exec_quota target quota allowance ho
  refine ⟨fun bad => ?badOperand, fun t ht hq ha => ⟨fun below => ?inUse, fun covered => ?replaced⟩⟩
  case badOperand =>
    rw [quotaAnswer_badOperand _ bad] at answer
    exact answer
  all_goals rw [quotaAnswer_inRange _ ht hq ha, State.renewSession_tally] at answer
  case inUse =>
    rw [if_pos below] at answer
    exact answer
  case replaced =>
    rw [if_neg (Nat.not_lt.2 covered), State.renewSession_quota, State.renewSession_allowance] at answer
    exact answer

end

section
/-! PROOFS. What a notice record obeys, and the operations that raise flags and leave the links, the check port, the
supply and the part mode (R97, R106, R115 to R117, R157). -/

namespace Sys2Proof.Machine

/-! ### One notice record (R115, R117, R119) -/

/-- The laws of the notice record of a master in a part mode. -/
structure Notice.Lawful (n : Notice) (mode : PartMode) (m : Master) : Prop where
  line : n.line = n.level mode
  latch : n.latch.isSome = n.has .denied
  more : n.latch = none → n.more = false
  reserved : m ≠ 0 → n.flags &&& 0xC00 = 0 ∧ n.enables &&& 0xC00 = 0

theorem Notice.lawful_atStart (m : Master) : Notice.atStart.Lawful .starting m :=
  ⟨rfl, rfl, fun _ => rfl, fun _ => ⟨rfl, rfl⟩⟩

/-- No other flag's mask holds the bit of DENIED. -/
theorem Flag.mask_denied {f : Flag} (h : f ≠ .denied) : f.mask.getLsbD Flag.denied.bit = false := by
  cases f with
  | denied => exact absurd rfl h
  | _ => rfl

/-- Bits raised beside PEERLAPSE and STARTLOSS leave those two as they are. -/
theorem reserved_or {mask : BitVec 12} (own : mask &&& 0xC00 = 0) (x : BitVec 12) :
    (x ||| mask) &&& 0xC00 = x &&& 0xC00 := by
  have split : (x ||| mask) &&& 0xC00 = x &&& 0xC00 ||| mask &&& 0xC00 := by
    ext k hk
    simp [Bool.and_or_distrib_right]
  rw [split, own]
  exact BitVec.or_zero

/-- Bits cleared set neither PEERLAPSE nor STARTLOSS. -/
theorem reserved_and {x : BitVec 12} (own : x &&& 0xC00 = 0) (y : BitVec 12) : (x &&& y) &&& 0xC00 = 0 := by
  rw [BitVec.and_assoc, BitVec.and_comm y, ← BitVec.and_assoc, own]
  exact BitVec.zero_and

namespace Notice.Lawful

variable {n : Notice} {mode : PartMode} {m : Master}

/-- The line follows the part mode when it is recomputed (R117, R152). -/
theorem refresh (h : n.Lawful mode m) (mode' : PartMode) : (n.refresh mode').Lawful mode' m :=
  ⟨rfl, h.latch, h.more, h.reserved⟩

/-- A flag is raised that is not DENIED, and that masters 1 to 5 may show (R115, R116). -/
theorem raise (h : n.Lawful mode m) {f : Flag} (latch : f ≠ .denied) (peer : m ≠ 0 → f.mask &&& 0xC00 = 0) :
    (Notice.refresh { n with flags := n.flags ||| f.mask } mode).Lawful mode m := by
  refine ⟨rfl, ?_, h.more, fun hm => ⟨?_, (h.reserved hm).2⟩⟩
  · have kept : (n.flags ||| f.mask).getLsbD Flag.denied.bit = n.flags.getLsbD Flag.denied.bit := by
      rw [BitVec.getLsbD_or, Flag.mask_denied latch, Bool.or_false]
    exact h.latch.trans kept.symm
  · exact (reserved_or (peer hm) n.flags).trans (h.reserved hm).1

/-- A capture fills an empty latch together with DENIED, or marks a full one (R106). -/
theorem afterCapture (h : n.Lawful mode m) (c : Capture) : (n.afterCapture c mode).Lawful mode m := by
  unfold Notice.afterCapture
  split
  · refine ⟨rfl, ?_, nofun, fun hm => ⟨?_, (h.reserved hm).2⟩⟩
    · simp [Notice.has, Flag.denied.mask_bit]
    · exact (reserved_or rfl n.flags).trans (h.reserved hm).1
  · next full => exact ⟨h.line, h.latch, fun empty => (by rw [full] at empty; cases empty), h.reserved⟩

/-- An acknowledgement empties the latch exactly when it clears DENIED (R120). -/
theorem acknowledged (h : n.Lawful mode m) (mask : BitVec 12) :
    ((n.acknowledged mask).refresh mode).Lawful mode m := by
  have denied : (n.flags &&& ~~~mask).getLsbD Flag.denied.bit =
      (n.has .denied && !mask.getLsbD Flag.denied.bit) := by
    simp [Notice.has, Flag.bit]
  unfold Notice.acknowledged
  split
  · next both =>
    refine ⟨rfl, ?_, fun _ => rfl, fun hm => (h.reserved hm).imp_left (reserved_and · _)⟩
    refine Eq.trans ?_ denied.symm
    simp [both.1]
  · next other =>
    refine ⟨rfl, ?_, h.more, fun hm => (h.reserved hm).imp_left (reserved_and · _)⟩
    refine h.latch.trans (Eq.trans ?_ denied.symm)
    cases hd : n.has .denied <;> simp_all

/-- New enables keep masters 1 to 5 from PEERLAPSE and STARTLOSS (R121). -/
theorem enabled (h : n.Lawful mode m) (mask : BitVec 12) (line : Bool) :
    (Notice.refresh { n with enables := mask &&& enableMask m, lineEnable := line } mode).Lawful mode m := by
  refine ⟨rfl, h.latch, h.more, fun hm => ⟨(h.reserved hm).1, ?_⟩⟩
  rw [Notice.refresh_enables, enableMask, if_neg hm, BitVec.and_assoc]
  exact BitVec.and_zero

end Notice.Lawful

/-- Every notice record is lawful. -/
def State.NoticeSound (s : State) : Prop := ∀ m, (s.notice m).Lawful s.mode m

theorem State.noticeLaw_iff (s : State) : s.noticeLaw ↔ s.NoticeSound :=
  forall_congr' fun _ => ⟨fun ⟨line, latch, more, reserved⟩ => ⟨line, latch, more, reserved⟩,
    fun ⟨line, latch, more, reserved⟩ => ⟨line, latch, more, reserved⟩⟩

/-! ### The relation -/

/-- From one state to a later one the links, the check unit, the supply and the part mode have not changed, and the
notice records are lawful if they were. -/
structure State.KeepsPorts (s t : State) : Prop where
  links : t.links = s.links
  check : t.check = s.check
  supply : t.pins.supply = s.pins.supply
  mode : t.mode = s.mode
  notices : s.NoticeSound → t.NoticeSound

namespace State.KeepsPorts

variable {s t u : State}

theorem refl (s : State) : s.KeepsPorts s := ⟨rfl, rfl, rfl, rfl, id⟩

theorem trans (h : s.KeepsPorts u) (h' : u.KeepsPorts t) : s.KeepsPorts t :=
  ⟨h'.links.trans h.links, h'.check.trans h.check, h'.supply.trans h.supply, h'.mode.trans h.mode,
    fun hs => h'.notices (h.notices hs)⟩

/-- An operation on other pieces of the state. -/
theorem of_frame (h : s.KeepsPorts u) (frame : t.links = u.links ∧ t.check = u.check ∧
    t.pins.supply = u.pins.supply ∧ t.mode = u.mode ∧ t.notices = u.notices) : s.KeepsPorts t := by
  obtain ⟨links, check, supply, mode, notices⟩ := frame
  refine h.trans ⟨links, check, supply, mode, fun hu m => ?_⟩
  rw [mode, State.notice, notices]
  exact hu m

/-- A notice record is written that is lawful if the old one was. -/
theorem setNotice (h : s.KeepsPorts u) (m : Master) {n : Notice}
    (hn : (u.notice m).Lawful u.mode m → n.Lawful u.mode m) : s.KeepsPorts (u.setNotice m n) := by
  refine h.trans ⟨rfl, rfl, rfl, rfl, fun hu k => ?_⟩
  rw [State.setNotice_notice]
  split
  · next same => exact same ▸ hn (hu m)
  · exact hu k

/-- A flag is raised that is not DENIED, and that masters 1 to 5 may show. -/
theorem raise (h : s.KeepsPorts u) (m : Master) {f : Flag} (latch : f ≠ .denied)
    (peer : m ≠ 0 → f.mask &&& 0xC00 = 0) : s.KeepsPorts (u.raise m f) :=
  h.setNotice m fun hn => hn.raise latch peer

theorem kickEngine (h : s.KeepsPorts u) : s.KeepsPorts u.kickEngine := h.of_frame (by simp)
theorem endOperation (h : s.KeepsPorts u) : s.KeepsPorts u.endOperation := h.of_frame (by simp)
theorem setWindow (h : s.KeepsPorts u) (i : RecIdx) (w : Window) : s.KeepsPorts (u.setWindow i w) :=
  h.of_frame (by simp)
theorem setWatch (h : s.KeepsPorts u) (k : WatchIdx) (w : WatchRecord) : s.KeepsPorts (u.setWatch k w) :=
  h.of_frame (by simp)
theorem setSessionState (h : s.KeepsPorts u) (m : Master) (x : SessionState) : s.KeepsPorts (u.setSessionState m x) :=
  h.of_frame (by simp)
theorem setEngine (h : s.KeepsPorts u) (e : Engine) : s.KeepsPorts (u.setEngine e) := h.of_frame (by simp)

/-! ### Retires and the wait queue -/

/-- A retire raises EXPIRED or RETIRED, or nothing (R18). -/
theorem retire (h : s.KeepsPorts u) (cause : RetireCause) (i : RecIdx) : s.KeepsPorts (u.retire cause i) := by
  cases hw : (u.record i).window with
  | none => rwa [u.retire_free cause i hw]
  | some w =>
    have raised : s.KeepsPorts (u.raiseIf w.owner cause.notice) := by
      cases cause with
      | expired => exact h.raise _ nofun fun _ => rfl
      | evicted | revoked | banded | purged => exact h.raise _ nofun fun _ => rfl
      | released | lapsed | closed => exact h
    exact raised.of_frame ⟨by simp, by simp, by simp, by simp, State.retire_notices u cause hw⟩

theorem retireAll (h : s.KeepsPorts u) (cause : RetireCause) (l : List RecIdx) : s.KeepsPorts (u.retireAll cause l) :=
  List.foldlRecOn _ _ h fun _ ht i _ => ht.retire cause i

theorem waitFail (h : s.KeepsPorts u) (cause : FailCause) (e : Waiter) : s.KeepsPorts (u.waitFail cause e) :=
  State.KeepsPorts.raise (h.of_frame (by simp)) _ nofun fun _ => rfl

theorem removeWaiters (h : s.KeepsPorts u) (cause : Option FailCause) (p : Waiter → Bool) :
    s.KeepsPorts (u.removeWaiters cause p) := by
  have left : s.KeepsPorts (u.setQueue (u.queue.filter fun e => !p e)) := h.of_frame (by simp)
  cases cause with
  | none => exact left
  | some c => exact List.foldlRecOn _ _ left fun _ ht e _ => ht.waitFail c e

/-- The scan raises WAITFAIL and GRANT (R54, R55). -/
theorem grantScan (h : s.KeepsPorts u) : s.KeepsPorts u.grantScan :=
  u.grantScan_induction h (fun _ _ ht => ht.of_frame (by simp)) (fun _ c e _ ht => ht.waitFail c e)
    fun _ _ _ _ ht _ => State.KeepsPorts.raise (ht.of_frame (by simp)) _ nofun fun _ => rfl

/-! ### Drains, the band and session ends -/

theorem drainWindow (h : s.KeepsPorts u) (cause : DrainCause) (grace : Nat) (i : RecIdx) :
    s.KeepsPorts (u.drainWindow cause grace i) := by
  unfold State.drainWindow
  split
  · exact h
  · split
    · exact h.retire _ i
    · exact (h.setWindow i _).raise _ nofun fun _ => rfl

theorem widen (h : s.KeepsPorts u) (value grace : Nat) : s.KeepsPorts (u.widen value grace) := by
  have drained : s.KeepsPorts (u.bandDrained value grace) :=
    List.foldlRecOn _ _ h fun _ ht i _ => ht.drainWindow .banded grace i
  have removed : s.KeepsPorts (u.bandRemoved value grace) := drained.removeWaiters _ _
  obtain scanned | ⟨left, -⟩ := u.widen_cases value grace
  · exact scanned ▸ removed.grantScan
  · exact left ▸ removed

theorem commitBand (h : s.KeepsPorts u) (value : Nat) : s.KeepsPorts (u.commitBand value) :=
  (State.KeepsPorts.retireAll (h.of_frame (by simp)) _ _).grantScan

theorem endSession (h : s.KeepsPorts u) (m : Master) (cause : RetireCause) (fail : Option FailCause)
    (after : SessionState) : s.KeepsPorts (u.endSession m cause fail after) := by
  have removed := (h.retireAll cause (u.recordsWhere fun _ w => endsWith m w)).removeWaiters fail
    fun e => decide (e.master = m)
  exact State.KeepsPorts.grantScan (removed.of_frame (by simp))

/-- PEERLAPSE is raised for master 0 only (R73). -/
theorem noticeLapse (h : s.KeepsPorts u) (m : Master) : s.KeepsPorts (u.noticeLapse m) := by
  unfold State.noticeLapse
  split
  · exact h.raise m nofun fun _ => rfl
  · exact (h.raise m (f := .lapsed) nofun fun _ => rfl).raise 0 nofun fun other => absurd rfl other

/-! ### Checks -/

theorem capture (h : s.KeepsPorts u) (m : Master) (c : Capture) : s.KeepsPorts (u.capture m c) := by
  refine h.trans ⟨by simp, by simp, by simp, by simp, fun hu k => ?_⟩
  rw [State.capture_notice, State.capture_mode]
  split
  · next same => exact same ▸ (hu m).afterCapture c
  · exact hu k

theorem hitWatch (h : s.KeepsPorts u) (m : Master) (a : Access) (v : Verdict) (k : WatchIdx) :
    s.KeepsPorts (u.hitWatch m a v k) := by
  unfold State.hitWatch
  split
  · exact h
  · split
    · exact (h.setWatch k _).raise _ nofun fun _ => rfl
    · exact h

/-- A check raises DENIED with its capture and WATCH (R106, R112). -/
theorem applyVerdict (h : s.KeepsPorts u) (a : Access) (v : Verdict) : s.KeepsPorts (u.applyVerdict a v) := by
  unfold State.applyVerdict
  split
  · exact h
  · next m _ =>
    have touched : s.KeepsPorts (u.touch v) := h.of_frame (by simp)
    have captured : s.KeepsPorts ((u.touch v).captureDenial m a v) := by
      unfold State.captureDenial
      split
      · exact touched
      · split
        · exact touched.capture m _
        · exact touched
    unfold State.hitWatches
    split
    · exact captured
    · exact List.foldlRecOn _ _ captured fun _ ht k _ => ht.hitWatch m a v k

end State.KeepsPorts

end Sys2Proof.Machine
end

section
/-! PROOFS. What every request is answered with: an operation that raises flags at most, and a reply of at most 31
results (R115, R164). -/

namespace Sys2Proof.Machine

/-! ### The length of a reply -/

theorem State.length_summary (s : State) (i : RecIdx) (w : Window) : (s.summary i w).length = 5 := rfl

theorem State.length_summaryOf_le (s : State) (i : RecIdx) : (s.summaryOf i).length ≤ 5 := by
  unfold State.summaryOf
  cases (s.record i).window with
  | none => exact Nat.zero_le 5
  | some w => exact (s.length_summary i w).le

/-- A LIST answers with its continue index and at most six summaries, the longest reply there is (R46). -/
theorem State.length_listed_summaries (s : State) (start : Nat) (t : Master) :
    ((s.listed start t).flatMap s.summaryOf).length ≤ 30 := by
  have six : (s.listed start t).length ≤ 6 := List.length_take_le _ _
  have five : ∀ l : List RecIdx, (l.flatMap s.summaryOf).length ≤ 5 * l.length := fun l => by
    induction l with
    | nil => exact Nat.zero_le _
    | cons i l ih =>
      have := s.length_summaryOf_le i
      simp only [List.flatMap_cons, List.length_append, List.length_cons]
      omega
  have := five (s.listed start t)
  omega

/-! ### Answers -/

/-- An answer that leaves the ports and the laws of the notices, with a reply the link unit can hold. -/
structure Answer.KeepsPorts (s : State) (a : Answer) : Prop where
  state : s.KeepsPorts a.state
  short : a.results.length ≤ 31

namespace Answer.KeepsPorts

variable {s : State}

theorem refuse (s : State) (st : Status) : (s.refuse st).KeepsPorts s := ⟨.refl s, Nat.zero_le _⟩

theorem gone (s : State) (code : Nat) : (s.gone code).KeepsPorts s := ⟨.refl s, by simp [State.gone]⟩

theorem gated {gate : Option Status} {rest : Answer} (h : rest.KeepsPorts s) : (s.gated gate rest).KeepsPorts s := by
  cases gate with
  | none => exact h
  | some st => exact refuse s st

theorem withHandle {h : Word} {f : RecIdx → Window → Answer} (hf : ∀ i w, (f i w).KeepsPorts s) :
    (s.withHandle h f).KeepsPorts s := by
  unfold State.withHandle
  split
  · exact refuse s _
  · exact gone s _
  · exact hf _ _

theorem withWatch {m : Master} {id : Word} {f : WatchIdx → Watch → Answer} (hf : ∀ k w, (f k w).KeepsPorts s) :
    (s.withWatch m id f).KeepsPorts s := by
  unfold State.withWatch
  split
  · exact refuse s _
  · split
    · exact refuse s _
    · split
      · exact refuse s _
      · exact hf _ _

end Answer.KeepsPorts

open Answer.KeepsPorts (refuse gone)

section
variable (s : State) (m : Master)

theorem openAnswer_keepsPorts (period : Nat) : (openAnswer m period s).KeepsPorts s := by
  unfold openAnswer
  split
  · exact refuse s _
  · split
    · exact refuse s _
    · exact ⟨(State.KeepsPorts.refl s).setSessionState m _, by simp [State.ok]⟩
    · exact ⟨(State.KeepsPorts.refl s).setSessionState m _, by simp [State.ok]⟩

theorem closeAnswer_keepsPorts : (closeAnswer m s).KeepsPorts s := by
  unfold closeAnswer
  split
  · exact ⟨(State.KeepsPorts.refl s).endSession m _ _ _, Nat.zero_le _⟩
  · exact ⟨(State.KeepsPorts.refl s).setSessionState m _, Nat.zero_le _⟩
  · exact ⟨.refl s, Nat.zero_le _⟩

theorem claimAnswer_keepsPorts (c : ClaimOperands) : (claimAnswer m c s).KeepsPorts s := by
  refine .gated (.gated ?_)
  split
  · exact ⟨(State.KeepsPorts.refl s).of_frame (by simp [State.ok]), by simp [State.ok]⟩
  · unfold State.claimWaits
    split
    · split
      · exact ⟨(State.KeepsPorts.refl s).of_frame (by simp), by simp⟩
      · exact refuse s _
    · split
      · exact ⟨.refl s, by simp⟩
      · exact refuse s _

theorem renewAnswer_keepsPorts (h : Word) (ticks : Nat) : (renewAnswer m h ticks s).KeepsPorts s := by
  unfold renewAnswer
  split
  · exact refuse s _
  · refine .withHandle fun i w => ?_
    unfold renewWindow
    split
    · exact refuse s _
    · split
      · exact refuse s _
      · split
        · exact ⟨(State.KeepsPorts.refl s).setWindow i _, by simp [State.ok]⟩
        · exact refuse s _
        · exact refuse s _

theorem releaseWindow_keepsPorts (i : RecIdx) (w : Window) : (releaseWindow m s i w).KeepsPorts s := by
  unfold releaseWindow
  split
  · exact refuse s _
  · split
    · exact refuse s _
    · exact ⟨((State.KeepsPorts.refl s).retire _ i).grantScan, Nat.zero_le _⟩

theorem State.keepsPorts_changeMode (i : RecIdx) (w : Window) (mode : AccessMode) :
    s.KeepsPorts (s.changeMode i w mode) := (State.KeepsPorts.refl s).of_frame (by simp)

theorem downgradeWindow_keepsPorts (i : RecIdx) (w : Window) : (downgradeWindow m s i w).KeepsPorts s := by
  unfold downgradeWindow
  split
  · exact refuse s _
  · split
    · exact ⟨.refl s, Nat.zero_le _⟩
    · exact ⟨(s.keepsPorts_changeMode i w .read).grantScan.kickEngine, Nat.zero_le _⟩

theorem upgradeWindow_keepsPorts (i : RecIdx) (w : Window) : (upgradeWindow m s i w).KeepsPorts s := by
  unfold upgradeWindow
  split
  · exact refuse s _
  · split
    · exact refuse s _
    · split
      · exact ⟨.refl s, Nat.zero_le _⟩
      · split
        · exact ⟨.refl s, by simp⟩
        · exact ⟨(s.keepsPorts_changeMode i w .write).kickEngine, Nat.zero_le _⟩

theorem queryWindow_keepsPorts (i : RecIdx) (w : Window) : (queryWindow s i w).KeepsPorts s :=
  ⟨(State.KeepsPorts.refl s).setWindow i _, by simp [queryWindow, State.ok, s.length_summary i w]⟩

theorem listAnswer_keepsPorts (start target : Word) : (listAnswer m start target s).KeepsPorts s := by
  unfold listAnswer
  split
  · exact refuse s _
  · split
    · exact refuse s _
    · next t _ =>
      split
      · exact refuse s _
      · exact ⟨.refl s, Nat.succ_le_succ (s.length_listed_summaries start.toNat t)⟩

theorem cancelAnswer_keepsPorts (t : Word) : (cancelAnswer m t s).KeepsPorts s := by
  unfold cancelAnswer
  split
  · exact ⟨((State.KeepsPorts.refl s).removeWaiters _ _).grantScan, Nat.zero_le _⟩
  · exact ⟨.refl s, by simp⟩
  · exact gone s _
  · exact gone s _

theorem ticketAnswer_keepsPorts (t : Word) : (ticketAnswer m t s).KeepsPorts s := by
  unfold ticketAnswer
  split
  · exact ⟨.refl s, by simp⟩
  · exact ⟨.refl s, by simp⟩
  · exact gone s _
  · exact gone s _

theorem standAnswer_keepsPorts (i : RecIdx) (w : Window) : (standAnswer m s i w).KeepsPorts s := by
  have stood : ∀ k, s.KeepsPorts (s.standWindow i w k) := fun k => (State.KeepsPorts.refl s).of_frame (by simp)
  unfold standAnswer
  split
  · exact refuse s _
  · split
    · exact refuse s _
    · split
      · exact refuse s _
      · split
        · exact refuse s _
        · split
          · exact refuse s _
          · exact ⟨(stood _).kickEngine, by simp [State.ok]⟩

theorem unstandAnswer_keepsPorts (i : RecIdx) (w : Window) : (unstandAnswer m s i w).KeepsPorts s := by
  have changed : ∀ k, s.KeepsPorts (s.unstandWindow i w k) := fun k => (State.KeepsPorts.refl s).of_frame (by simp)
  unfold unstandAnswer
  split
  · exact refuse s _
  · split
    · exact refuse s _
    · exact refuse s _
    · split
      · exact refuse s _
      · exact ⟨(changed _).kickEngine, by simp [State.ok]⟩

theorem watchSetAnswer_keepsPorts (base size : Nat) (kinds : WatchKinds) :
    (watchSetAnswer m base size kinds s).KeepsPorts s := by
  unfold watchSetAnswer
  split
  · exact refuse s _
  · split
    · exact refuse s _
    · split
      · exact refuse s _
      · exact ⟨(State.KeepsPorts.refl s).setWatch _ _, by simp [State.ok]⟩

theorem noticeAckAnswer_keepsPorts (mask : BitVec 12) : (noticeAckAnswer m mask s).KeepsPorts s :=
  ⟨(State.KeepsPorts.refl s).setNotice m fun hn => hn.acknowledged mask, by simp [noticeAckAnswer, State.ok]⟩

theorem noticeEnableAnswer_keepsPorts (mask : BitVec 12) (line : Bool) :
    (noticeEnableAnswer m mask line s).KeepsPorts s :=
  ⟨(State.KeepsPorts.refl s).setNotice m fun hn => hn.enabled mask line, by simp [noticeEnableAnswer, State.ok]⟩

theorem quotaAnswer_keepsPorts (target : Word) (quota allowance : Nat) :
    (quotaAnswer target quota allowance s).KeepsPorts s := by
  unfold quotaAnswer
  split
  · exact refuse s _
  · split
    · exact refuse s _
    · split
      · exact refuse s _
      · exact ⟨(State.KeepsPorts.refl s).of_frame (by simp [State.ok]), by simp [State.ok]⟩

theorem revokeAnswer_keepsPorts (h : Word) (grace : Nat) : (revokeAnswer h grace s).KeepsPorts s := by
  unfold revokeAnswer
  split
  · exact refuse s _
  · refine .withHandle fun i w => ?_
    have drained := (State.KeepsPorts.refl s).drainWindow .revoked grace i
    unfold revokeWindow
    split
    · next zero => exact ⟨(zero ▸ drained).grantScan.kickEngine, by simp [State.ok]⟩
    · have marked : s.KeepsPorts ((s.drainWindow .revoked grace i).markRevokedOf w) := drained.of_frame (by simp)
      exact ⟨marked.kickEngine, by simp [State.ok]⟩

theorem evictAnswer_keepsPorts (target : Word) : (evictAnswer target s).KeepsPorts s := by
  unfold evictAnswer
  split
  · exact refuse s _
  · next t _ =>
    unfold evictTarget
    split
    · exact ⟨(State.KeepsPorts.refl s).endSession t _ _ _, by simp [State.ok]⟩
    · exact ⟨(State.KeepsPorts.refl s).setSessionState t _, by simp [State.ok]⟩
    · exact ⟨.refl s, by simp [State.ok]⟩

theorem bandAnswer_keepsPorts (value grace : Nat) : (bandAnswer value grace s).KeepsPorts s := by
  have pending : s.KeepsPorts (s.setPendingBand value) := (State.KeepsPorts.refl s).of_frame (by simp)
  unfold bandAnswer
  split
  · exact refuse s _
  · unfold bandValueAnswer
    split
    · exact ⟨(pending.widen value grace).kickEngine, by simp [State.ok]⟩
    · split
      · exact ⟨pending.kickEngine, by simp [State.ok]⟩
      · split
        · exact ⟨.refl s, by simp [State.ok]⟩
        · exact refuse s _

theorem purgeAnswer_keepsPorts (slot : Word) : (purgeAnswer slot s).KeepsPorts s := by
  unfold purgeAnswer
  split
  · exact refuse s _
  · next k _ =>
    split
    · have purged : s.KeepsPorts (s.purgeWindow (s.slot k).binding) := by
        cases (s.slot k).binding with
        | none => exact .refl s
        | some i => exact ((State.KeepsPorts.refl s).retire _ i).grantScan
      have marked : s.KeepsPorts ((s.purgeWindow (s.slot k).binding).changeSlot k Slot.markPurged) :=
        purged.of_frame (by simp)
      exact ⟨marked.kickEngine, by simp [purgeSlot, State.ok]⟩
    · exact refuse s _

end

/-! ### Every request -/

/-- A state is what some answer leaves that keeps the ports and has a short reply. -/
def State.AnswersShortly (s t : State) : Prop :=
  ∃ (a : Answer) (m : Master) (code : Byte), t = a.reply m code ∧ a.KeepsPorts s

/-- A request is served on the renewed session, which is no piece of the ports. -/
theorem serve_answersShortly {s : State} {m : Master} {code : Byte} {ok : Bool} {gate : State → Option Status}
    {rest : State → Answer} (hr : ∀ u, (rest u).KeepsPorts u) :
    s.AnswersShortly (serve m code ok (fun u => u.gated (gate u) (rest u)) s) := by
  have renewed : s.KeepsPorts (s.renewSession m) := (State.KeepsPorts.refl s).of_frame (by simp)
  have answered : (if ok then (s.renewSession m).gated (gate (s.renewSession m)) (rest (s.renewSession m))
      else (s.renewSession m).refuse .badOperand).KeepsPorts (s.renewSession m) := by
    split
    · exact .gated (hr _)
    · exact refuse _ _
  exact ⟨_, m, code, rfl, renewed.trans answered.state, answered.short⟩

/-- Every request is answered shortly, but for a RESTART that begins a SOFT start. -/
theorem takeRequest_answersShortly (i : Instr) (s : State) {m : Master} {code : Nat} {ops : List Word}
    (hp : requestParts i = some (m, code, ops)) :
    s.AnswersShortly (takeRequest i s) ∨ takeRequest i s = (s.renewSession m).softStart := by
  have still : ∀ (u : State) (results : List Word), results.length ≤ 31 → (u.ok results).KeepsPorts u :=
    fun u _ short => ⟨.refl u, short⟩
  cases i with (cases hp <;> dsimp only [takeRequest])
  | restart =>
    unfold takeRestart
    split
    · exact .inl (serve_answersShortly fun u => still u _ (Nat.zero_le _))
    · exact .inr rfl
  | nop | keepalive => exact .inl (serve_answersShortly fun u => still u _ (Nat.zero_le _))
  | status => exact .inl (serve_answersShortly fun u => still u _ (by simp [State.statusWords]))
  | noticeRead => exact .inl (serve_answersShortly fun u => still u _ (by simp [Notice.words]))
  | noticeAck => exact .inl (serve_answersShortly fun u => noticeAckAnswer_keepsPorts u m _)
  | noticeEnable => exact .inl (serve_answersShortly fun u => noticeEnableAnswer_keepsPorts u m _ _)
  | openSession => exact .inl (serve_answersShortly fun u => openAnswer_keepsPorts u m _)
  | close => exact .inl (serve_answersShortly fun u => closeAnswer_keepsPorts u m)
  | claim => exact .inl (serve_answersShortly fun u => claimAnswer_keepsPorts u m _)
  | renew => exact .inl (serve_answersShortly fun u => renewAnswer_keepsPorts u m _ _)
  | release => exact .inl (serve_answersShortly fun u => .withHandle (releaseWindow_keepsPorts u m))
  | downgrade => exact .inl (serve_answersShortly fun u => .withHandle (downgradeWindow_keepsPorts u m))
  | upgrade => exact .inl (serve_answersShortly fun u => .withHandle (upgradeWindow_keepsPorts u m))
  | query => exact .inl (serve_answersShortly fun u => .withHandle (queryWindow_keepsPorts u))
  | list => exact .inl (serve_answersShortly fun u => listAnswer_keepsPorts u m _ _)
  | cancel => exact .inl (serve_answersShortly fun u => cancelAnswer_keepsPorts u m _)
  | ticket => exact .inl (serve_answersShortly fun u => ticketAnswer_keepsPorts u m _)
  | stand => exact .inl (serve_answersShortly fun u => .withHandle (standAnswer_keepsPorts u m))
  | unstand => exact .inl (serve_answersShortly fun u => .withHandle (unstandAnswer_keepsPorts u m))
  | watchSet => exact .inl (serve_answersShortly fun u => watchSetAnswer_keepsPorts u m _ _ _)
  | watchClear =>
    exact .inl (serve_answersShortly fun u => .withWatch fun k _ =>
      ⟨(State.KeepsPorts.refl u).setWatch k _, by simp [State.ok]⟩)
  | watchRead =>
    exact .inl (serve_answersShortly fun u => .withWatch fun k w =>
      ⟨(State.KeepsPorts.refl u).setWatch k _, by simp [State.ok, Watch.words]⟩)
  | quota => exact .inl (serve_answersShortly fun u => quotaAnswer_keepsPorts u _ _ _)
  | revoke => exact .inl (serve_answersShortly fun u => revokeAnswer_keepsPorts u _ _)
  | evict => exact .inl (serve_answersShortly fun u => evictAnswer_keepsPorts u _)
  | band => exact .inl (serve_answersShortly fun u => bandAnswer_keepsPorts u _ _)
  | purge => exact .inl (serve_answersShortly fun u => purgeAnswer_keepsPorts u _)

end Sys2Proof.Machine
end

section
/-! PROOFS. The laws of the notices, the check port and the links as one predicate, and that every step keeps it (R97,
R98, R115, R117, R119, R157, R158, R164). -/

namespace Sys2Proof.Machine

/-! ### One link unit (R157, R158, R164) -/

/-- The laws of a link unit, by whether the part has its supply. -/
structure Link.Lawful (l : Link) (supply : Bool) : Prop where
  reply : ∀ r ∈ l.reply, r.results.length ≤ 31
  buffer : l.buffer.length ≤ 10
  driven : supply = true → l.ldo.isSome = l.lselLow ∧ (l.phase = .receiving → l.lselLow = true)

namespace Link.Lawful

variable {l : Link} {supply : Bool}

theorem withReply (h : l.Lawful supply) {r : Reply} (short : r.results.length ≤ 31) :
    ({ l with reply := some r } : Link).Lawful supply :=
  ⟨fun _ hr => Option.some.inj hr ▸ short, h.buffer, h.driven⟩

/-- A start leaves a link IDLE, with LDO driven while LSEL is still low, whatever it was before (R158, R163). -/
theorem atStart (l : Link) (supply : Bool) : l.atStart.Lawful supply := by
  refine ⟨nofun, Nat.zero_le _, fun _ => ⟨?_, nofun⟩⟩
  cases low : l.lselLow <;> simp [Link.atStart, low]

theorem fall (h : l.Lawful supply) : l.fall.Lawful supply := by
  unfold Link.fall
  split
  · exact ⟨h.reply, Nat.zero_le _, fun _ => ⟨rfl, fun _ => rfl⟩⟩
  · exact h

theorem riseIdle (h : l.Lawful supply) (idle : l.phase = .idle) (ldi : Clocked) : (l.riseIdle ldi).Lawful supply := by
  unfold Link.riseIdle
  split
  · exact ⟨h.reply, h.buffer, fun _ => ⟨rfl, fun receiving => (by rw [idle] at receiving; cases receiving)⟩⟩
  · exact h

theorem received (h : l.Lawful supply) (ldi : List Bool) : (l.received ldi).Lawful supply := by
  refine ⟨fun r hr => ?_, List.length_take_le _ _, fun _ => ⟨rfl, nofun⟩⟩
  simp only [Link.received] at hr
  split at hr
  · exact h.reply r hr
  · cases hr

/-- Without supply the driven levels are not seen. -/
theorem unpowered (reply : ∀ r ∈ l.reply, r.results.length ≤ 31) (buffer : l.buffer.length ≤ 10) : l.Lawful false :=
  ⟨reply, buffer, nofun⟩

end Link.Lawful

/-- Every verdict drives CACK (R98, R102). -/
theorem Verdict.out_cack (v : Verdict) : v.out.cack = true := by cases v <;> rfl

/-! ### The end of STARTING (R152) -/

/-- The part has left STARTING and its lines follow the new mode; the report and the engine are still to come. -/
def State.entered (s : State) : State :=
  let running := (s.setStartUp (s.startUp.finish s.pins.maint)).setClock (some 0)
  { running with notices := running.notices.map fun n => n.refresh running.mode }

theorem State.endStarting_eq (s : State) : s.endStarting =
    (if s.startUp.reportEmpty then s.entered else s.entered.raise 0 .startloss).endOperation := rfl

theorem State.entered_notice (s : State) (m : Master) :
    s.entered.notice m = (s.notice m).refresh s.entered.mode := by
  simp only [State.notice, State.entered, Vector.getElem_map]
  rfl

/-! ### The predicate -/

/-- The notices, the check port and the links are lawful. -/
structure State.PortSound (s : State) : Prop where
  notices : s.NoticeSound
  check : s.check.lawful = true
  links : ∀ m, (s.link m).Lawful s.pins.supply

theorem State.PortSound.laws {s : State} (h : s.PortSound) : s.noticeLaw ∧ s.portLaw :=
  ⟨s.noticeLaw_iff.2 h.notices, h.check, fun m => ⟨(h.links m).reply, (h.links m).buffer, (h.links m).driven⟩⟩

theorem State.safe.portSound {s : State} (h : s.safe) : s.PortSound := by
  obtain ⟨-, -, -, -, -, -, -, -, -, notices, -, ⟨check, links⟩, -⟩ := h
  refine ⟨s.noticeLaw_iff.1 notices, check, fun m => ?_⟩
  obtain ⟨reply, buffer, driven⟩ := links m
  exact ⟨reply, buffer, driven⟩

namespace State.PortSound

variable {s t : State}

theorem of_keepsPorts (h : s.PortSound) (kept : s.KeepsPorts t) : t.PortSound := by
  refine ⟨kept.notices h.notices, ?_, fun m => ?_⟩
  · rw [kept.check]
    exact h.check
  · rw [State.link, kept.links, kept.supply]
    exact h.links m

/-- An operation on other pieces of the state. -/
theorem of_frame (h : s.PortSound) (frame : t.links = s.links ∧ t.check = s.check ∧
    t.pins.supply = s.pins.supply ∧ t.mode = s.mode ∧ t.notices = s.notices) : t.PortSound :=
  h.of_keepsPorts ((State.KeepsPorts.refl s).of_frame frame)

theorem setCheck (h : s.PortSound) {c : CheckUnit} (hc : c.lawful = true) : (s.setCheck c).PortSound :=
  ⟨h.notices, hc, h.links⟩

/-! ### The links -/

theorem setLink (h : s.PortSound) (m : Master) {l : Link} (hl : l.Lawful s.pins.supply) : (s.setLink m l).PortSound := by
  refine ⟨h.notices, h.check, fun k => ?_⟩
  rw [State.setLink_link, State.setLink_pins]
  split
  · exact hl
  · exact h.links k

theorem placeReply (h : s.PortSound) (m : Master) {r : Reply} (short : r.results.length ≤ 31) :
    (s.placeReply m r).PortSound := h.setLink m ((h.links m).withReply short)

theorem renewSession (h : s.PortSound) (m : Master) : (s.renewSession m).PortSound := h.of_frame (by simp)

/-! ### Starts (R147) -/

/-- A start leaves the start values, whatever was before it and whatever the levels then are. -/
theorem beginStart (s : State) (cause : StartCause) (hold : Bool) (p : Pins) :
    ((s.beginStart cause hold).setPins p).PortSound := by
  refine ⟨fun m => ?_, rfl, fun m => ?_⟩
  · rw [State.setPins_notice, State.beginStart_notice]
    exact Notice.lawful_atStart m
  · rw [State.setPins_link, State.beginStart_link]
    exact .atStart _ _

theorem softStart (s : State) : s.softStart.PortSound :=
  (beginStart s .soft false (s.beginStart .soft false).pins).of_frame ⟨rfl, rfl, rfl, rfl, rfl⟩

theorem assertReset (h : s.PortSound) : s.assertReset.PortSound := by
  simp only [State.assertReset]
  split
  · exact beginStart (s.setPins { s.pins with reset := true }) .line false _
  · exact h.of_frame (by simp)

theorem endHold (h : s.PortSound) : s.endHold.PortSound := by
  simp only [State.endHold]
  split
  · split <;> exact h.of_frame ⟨rfl, rfl, rfl, rfl, rfl⟩
  · exact h

theorem releaseReset (h : s.PortSound) : s.releaseReset.PortSound := by
  simp only [State.releaseReset]
  split <;> exact h.of_frame ⟨rfl, rfl, rfl, rfl, rfl⟩

theorem loseSupply (h : s.PortSound) : s.loseSupply.PortSound := by
  have broken : s.breakPhase.PortSound := h.of_frame (by simp)
  exact ⟨broken.notices, broken.check, fun m => .unpowered (broken.links m).reply (broken.links m).buffer⟩

/-! ### Requests and frames -/

theorem takeRequest (h : s.PortSound) (i : Instr) : (takeRequest i s).PortSound := by
  cases hp : requestParts i with
  | none => rwa [takeRequest_event i s hp]
  | some parts =>
    obtain ⟨m, code, ops⟩ := parts
    obtain ⟨a, k, echo, left, kept⟩ | restarted := takeRequest_answersShortly i s hp
    · rw [left]
      exact (h.of_keepsPorts kept.state).placeReply k kept.short
    · rw [restarted]
      exact softStart _

theorem takeFrame (h : s.PortSound) (m : Master) : (s.takeFrame m).PortSound := by
  simp only [State.takeFrame]
  split
  · exact h.placeReply m (Nat.zero_le _)
  · exact (h.renewSession m).placeReply m (Nat.zero_le _)
  · exact (h.renewSession m).placeReply m (Nat.zero_le _)
  · exact h.takeRequest _

theorem riseLsel (h : s.PortSound) (m : Master) (ldi : Clocked) : (s.riseLsel m ldi).PortSound := by
  unfold State.riseLsel
  split
  · simp only [State.endFrame]
    split
    · next idle => exact h.setLink m ((h.links m).riseIdle idle ldi)
    · have ended := h.setLink m ((h.links m).received ldi.bits)
      split
      · exact ended
      · exact ended.takeFrame m
  · next off =>
    refine h.setLink m ?_
    rw [Bool.eq_false_iff.2 off]
    exact .unpowered (h.links m).reply (h.links m).buffer

theorem fallLsel (h : s.PortSound) (m : Master) : (s.fallLsel m).PortSound := by
  unfold State.fallLsel
  split
  · exact h.setLink m (h.links m).fall
  · next off =>
    refine h.setLink m ?_
    rw [Bool.eq_false_iff.2 off]
    exact .unpowered (h.links m).reply (h.links m).buffer

/-! ### The check port (R98) -/

theorem strobe (h : s.PortSound) (a : Access) : (s.strobe a).PortSound := by
  have seen : (s.setPins { s.pins with cstb := true }).PortSound := h.of_frame (by simp)
  simp only [State.strobe]
  split
  · exact seen
  · exact (seen.of_keepsPorts ((State.KeepsPorts.refl _).applyVerdict a _)).setCheck (Verdict.out_cack _)

theorem releaseStrobe (h : s.PortSound) : s.releaseStrobe.PortSound := by
  have seen : (s.setPins { s.pins with cstb := false }).PortSound := h.of_frame (by simp)
  simp only [State.releaseStrobe]
  split
  · exact seen.setCheck rfl
  · exact seen

/-! ### The start-up read (R149 to R152) -/

theorem restoreSlot (h : s.PortSound) (k : SlotIdx) : (s.restoreSlot k).PortSound := by
  have mode : (s.restoreSlot k).mode = s.mode := by
    unfold State.restoreSlot
    split
    · rfl
    · rfl
    · split
      · rfl
      · split
        · simp
        · rfl
  exact h.of_frame ⟨by simp, by simp, by simp, mode, by simp⟩

/-- The lines follow the mode STARTING ends in; STARTLOSS is raised for master 0 only (R152). -/
theorem endStarting (h : s.PortSound) : s.endStarting.PortSound := by
  have entered : s.entered.PortSound := ⟨fun m => s.entered_notice m ▸ (h.notices m).refresh _, h.check, h.links⟩
  have same := State.KeepsPorts.refl s.entered
  rw [State.endStarting_eq]
  split
  · exact entered.of_keepsPorts same.endOperation
  · exact entered.of_keepsPorts (same.raise 0 (f := .startloss) nofun fun other => absurd rfl other).endOperation

theorem readSlot (h : s.PortSound) (maint : Bool) : (s.readSlot maint).PortSound := by
  unfold State.readSlot
  split
  · next k _ =>
    have seen : (s.setPins { s.pins with maint := maint }).PortSound := h.of_frame (by simp)
    have decided := seen.restoreSlot k
    simp only []
    split
    · exact decided.of_frame (by simp)
    · exact decided.endStarting
  all_goals exact h

theorem readBandCell (h : s.PortSound) : s.readBandCell.PortSound := by
  unfold State.readBandCell
  split
  · split <;> exact h.of_frame ⟨rfl, rfl, rfl, rfl, rfl⟩
  all_goals exact h

end State.PortSound

/-! ### The expiries and the store phases -/

section
variable (s : State)

theorem State.keepsPorts_lapse (m : Master) : s.KeepsPorts (s.lapse m) := by
  unfold State.lapse
  split
  · exact ((State.KeepsPorts.refl s).endSession m _ _ _).noticeLapse m
  · exact .refl s

theorem State.keepsPorts_expireLease (i : RecIdx) : s.KeepsPorts (s.expireLease i) := by
  unfold State.expireLease
  split
  · exact ((State.KeepsPorts.refl s).retire _ i).grantScan
  · exact .refl s

theorem State.keepsPorts_warnLease (i : RecIdx) : s.KeepsPorts (s.warnLease i) := by
  unfold State.warnLease
  split
  · exact .refl s
  · split
    · exact ((State.KeepsPorts.refl s).setWindow i _).raise _ nofun fun _ => rfl
    · exact .refl s

theorem State.keepsPorts_endDrain (i : RecIdx) : s.KeepsPorts (s.endDrain i) := by
  unfold State.endDrain
  split
  · exact .refl s
  · split
    · exact ((State.KeepsPorts.refl s).retire _ i).grantScan.kickEngine
    · exact .refl s

theorem State.keepsPorts_expireWait (m : Master) (t : Word) : s.KeepsPorts (s.expireWait m t) := by
  unfold State.expireWait
  split
  · exact ((State.KeepsPorts.refl s).removeWaiters _ _).grantScan
  · exact .refl s

theorem State.keepsPorts_noticeStored (k : SlotIdx) (i : RecIdx) : s.KeepsPorts (s.noticeStored k i) := by
  unfold State.noticeStored
  split
  · cases (s.record i).window with
    | none => exact .refl s
    | some w => exact (State.KeepsPorts.refl s).raise _ nofun fun _ => rfl
  · exact .refl s

theorem State.keepsPorts_slotProgrammed : s.KeepsPorts s.slotProgrammed := by
  unfold State.slotProgrammed
  split
  · next k image i _ =>
    have written : s.KeepsPorts (s.setSlot k { s.slot k with content := .valid image }) :=
      (State.KeepsPorts.refl s).of_frame (by simp)
    exact (written.trans (State.keepsPorts_noticeStored _ k i)).endOperation
  all_goals exact .refl s

theorem State.keepsPorts_bandErased : s.KeepsPorts s.bandErased := by
  unfold State.bandErased
  split
  · exact (State.KeepsPorts.refl s).setEngine _
  all_goals exact .refl s

theorem State.keepsPorts_bandProgrammed : s.KeepsPorts s.bandProgrammed := by
  unfold State.bandProgrammed
  split
  · next value _ =>
    have written : s.KeepsPorts (s.setBand { s.band with cell := .valid value }) :=
      (State.KeepsPorts.refl s).of_frame (by simp)
    simp only []
    split
    · exact written.endOperation
    · exact (written.commitBand value).endOperation
  all_goals exact .refl s

end

/-! ### Every step -/

/-- Every command keeps the laws of the notices, the check port and the links. -/
theorem exec_portSound (c : Instr) {s t : State} (h : s.PortSound) (hn : exec c s = .next t) : t.PortSound := by
  have same := State.KeepsPorts.refl s
  cases hr : requestParts c with
  | some parts =>
    rw [exec_request c s (by simp [hr])] at hn
    exact whenPowered_keeps h (fun _ => h.takeRequest c) hn
  | none =>
    cases c with
    | frameEnd link ldi => exact Host.Outcome.next.inj hn ▸ h.riseLsel link ldi
    | lselFall link => exact Host.Outcome.next.inj hn ▸ h.fallLsel link
    | checkStrobe cmas cadr cspan cwr =>
      exact whenPowered_keeps (f := (·.strobe ⟨cmas, cadr, cspan, cwr⟩)) h (fun _ => h.strobe _) hn
    | checkRelease => exact whenPowered_keeps h (fun _ => h.releaseStrobe) hn
    | tick => exact whenPowered_keeps h (fun _ => h.of_frame (by simp)) hn
    | lapse m => exact whenPowered_keeps h (fun _ => h.of_keepsPorts (s.keepsPorts_lapse m)) hn
    | leaseExpiry i => exact whenPowered_keeps h (fun _ => h.of_keepsPorts (s.keepsPorts_expireLease i)) hn
    | leaselowWarning i =>
      exact whenPowered_keeps (f := (·.warnLease i)) h (fun _ => h.of_keepsPorts (s.keepsPorts_warnLease i)) hn
    | drainEnd i =>
      exact whenPowered_keeps (f := (·.endDrain i)) h (fun _ => h.of_keepsPorts (s.keepsPorts_endDrain i)) hn
    | waitExpiry m ticket =>
      exact whenPowered_keeps h (fun _ => h.of_keepsPorts (s.keepsPorts_expireWait m ticket)) hn
    | slotEraseDone => exact whenPowered_keeps h (fun _ => h.of_frame (by simp)) hn
    | slotProgramDone => exact whenPowered_keeps h (fun _ => h.of_keepsPorts s.keepsPorts_slotProgrammed) hn
    | clearDone => exact whenPowered_keeps h (fun _ => h.of_frame (by simp)) hn
    | bandEraseDone => exact whenPowered_keeps h (fun _ => h.of_keepsPorts s.keepsPorts_bandErased) hn
    | bandProgramDone => exact whenPowered_keeps h (fun _ => h.of_keepsPorts s.keepsPorts_bandProgrammed) hn
    | bandCellRead => exact whenPowered_keeps h (fun _ => h.readBandCell) hn
    | slotRead maint => exact whenPowered_keeps (f := (·.readSlot maint)) h (fun _ => h.readSlot maint) hn
    | powerStart => exact Host.Outcome.next.inj hn ▸ State.PortSound.beginStart s .power true _
    | powerOnHoldEnd => exact whenPowered_keeps h (fun _ => h.endHold) hn
    | lineStart => exact Host.Outcome.next.inj hn ▸ h.assertReset
    | resetRelease => exact Host.Outcome.next.inj hn ▸ h.releaseReset
    | supplyLoss => exact whenPowered_keeps h (fun _ => h.loseSupply) hn
    | lossOfRetention slot image => exact Host.Outcome.next.inj hn ▸ h.of_frame (by simp)
    | _ => cases hr

/-- Every step keeps the laws of the notices, the check port and the links. -/
theorem step_portSound {s t : State} (h : s.safe) (hn : step s = .next t) : t.PortSound := by
  rcases step_cases hn with rfl | ⟨c, rest, hc⟩
  · exact State.safe.portSound h
  · exact exec_portSound c (State.safe.portSound (State.safe.with_pending h rest)) hc

end Sys2Proof.Machine

open Sys2Proof Sys2Proof.Machine

/-- Settles O59: every operation but a capture raises other flags than DENIED, and PEERLAPSE and STARTLOSS for master 0
only; a capture and NOTICE ACK change the latch together with DENIED; no reply is longer than that of a LIST; and LDO
changes with LSEL, or at a start, by the level LSEL then has. -/
theorem noticeLawKept : Obligations.NoticeLawKept := fun _ _ h hn => (step_portSound h hn).laws

end

section
/-! PROOFS. The verdict of a check, test by test, and what an ALLOW needs (R100 to R104). -/

namespace Sys2Proof.Machine

/-! ### Searches in the words of claims -/

theorem State.lowest_iff (s : State) {p : RecIdx → Window → Bool} {q : RecIdx → Window → Prop}
    (h : ∀ i w, p i w = true ↔ q i w) (i : RecIdx) : s.lowest p = some i ↔ s.isLowest q i := by
  rw [s.lowest_eq_some]
  simp only [State.isLowest, h]

theorem State.lowest_none_iff (s : State) {p : RecIdx → Window → Bool} {q : RecIdx → Window → Prop}
    (h : ∀ i w, p i w = true ↔ q i w) : s.lowest p = none ↔ s.noneInForce q := by
  rw [s.lowest_eq_none]
  simp only [State.noneInForce, h]

/-! ### The windows a check finds -/

/-- Step 6 of R101: a window of the master that wholly contains the span, in a mode that suits the access. -/
abbrev Window.admits (w : Window) (m : Master) (a : Access) : Prop :=
  w.owner = m ∧ containsSpan w.base w.size a.cadr a.cspan ∧ (a.cwr = true → w.mode = .write)

/-- Step 8 of R101: a READ window of the master that wholly contains the span of a write. -/
abbrev Window.readOnlyFor (w : Window) (m : Master) (a : Access) : Prop :=
  a.cwr = true ∧ w.owner = m ∧ containsSpan w.base w.size a.cadr a.cspan ∧ w.mode = .read

/-- Step 9 of R101: a window of the master that overlaps the span. -/
abbrev Window.meets (w : Window) (m : Master) (a : Access) : Prop :=
  w.owner = m ∧ meetsBytes w.base w.size a.cadr.toNat (a.cadr.toNat + a.cspan.toNat)

theorem rangeContains_iff (base size : Nat) (a : Access) :
    rangeContains base size a.first a.last = true ↔ containsSpan base size a.cadr a.cspan := by
  rw [rangeContains, Bool.and_eq_true, decide_eq_true_eq, decide_eq_true_eq]
  rfl

theorem modeSuits_iff (mode : AccessMode) (cwr : Bool) : modeSuits mode cwr = true ↔ (cwr = true → mode = .write) := by
  cases cwr <;> simp [modeSuits]

section
variable (s : State) (m : Master) (a : Access)

theorem admitting_test (w : Window) :
    (decide (w.owner = m) && rangeContains w.base w.size a.first a.last && modeSuits w.mode a.cwr) = true ↔
      w.admits m a := by
  rw [Bool.and_eq_true, Bool.and_eq_true, decide_eq_true_eq, rangeContains_iff, modeSuits_iff, and_assoc]

theorem State.admitting_eq_some (i : RecIdx) : s.admitting m a = some i ↔ s.isLowest (fun _ w => w.admits m a) i :=
  s.lowest_iff (fun _ w => admitting_test m a w) i

theorem State.admitting_eq_none : s.admitting m a = none ↔ s.noneInForce fun _ w => w.admits m a :=
  s.lowest_none_iff fun _ w => admitting_test m a w

/-- Step 8 is made for a write alone. -/
theorem readOnlyOver_test (write : a.cwr = true) (w : Window) :
    (decide (w.owner = m) && rangeContains w.base w.size a.first a.last && decide (w.mode = .read)) = true ↔
      w.readOnlyFor m a := by
  rw [Bool.and_eq_true, Bool.and_eq_true, decide_eq_true_eq, rangeContains_iff, decide_eq_true_eq, and_assoc]
  exact (and_iff_right write).symm

theorem State.readOnly_eq_some (i : RecIdx) : (if a.cwr then s.readOnlyOver m a else none) = some i ↔
    s.isLowest (fun _ w => w.readOnlyFor m a) i := by
  cases write : a.cwr with
  | true => exact s.lowest_iff (fun _ w => readOnlyOver_test m a write w) i
  | false => simp [State.isLowest, write]

theorem State.readOnly_eq_none : (if a.cwr then s.readOnlyOver m a else none) = none ↔
    s.noneInForce fun _ w => w.readOnlyFor m a := by
  cases write : a.cwr with
  | true => exact s.lowest_none_iff fun _ w => readOnlyOver_test m a write w
  | false => simp [State.noneInForce, write]

theorem meeting_test (w : Window) :
    (decide (w.owner = m) && rangeMeets w.base w.size a.first a.last) = true ↔ w.meets m a := by
  rw [Bool.and_eq_true, decide_eq_true_eq, rangeMeets_iff]
  rfl

theorem State.meeting_eq_some (i : RecIdx) : s.meeting m a = some i ↔ s.isLowest (fun _ w => w.meets m a) i :=
  s.lowest_iff (fun _ w => meeting_test m a w) i

theorem State.meeting_eq_none : s.meeting m a = none ↔ s.noneInForce fun _ w => w.meets m a :=
  s.lowest_none_iff fun _ w => meeting_test m a w

/-- Step 2 of R101: outside STARTING a code that names no master is denied. -/
theorem State.verdict_unnamed (running : s.mode ≠ .starting) (high : 6 ≤ a.cmas.toNat) :
    s.verdict a = .deny .noMaster none := by
  rw [State.verdict, if_neg running, checkMaster_eq_none a.cmas high]

/-! ### The tests of a master's check, in their order (R101) -/

/-- Step 3. -/
theorem State.verdictFor_maint (maintenance : s.mode = .maintenance) (other : m ≠ 0) :
    s.verdictFor m a = .deny .maint none := if_pos ⟨maintenance, other⟩

section
variable {s m a} (served : s.mode = .maintenance → m = 0)
include served

/-- Step 4. -/
theorem State.verdictFor_range (outside : topByte < a.last) : s.verdictFor m a = .deny .range none := by
  rw [State.verdictFor, if_neg fun h => h.2 (served h.1)]
  exact if_pos outside

variable (inside : a.last ≤ topByte)
include inside

/-- Step 5. -/
theorem State.verdictFor_band (read : a.cwr = false) (band : a.last < 65536 * s.band.committed) :
    s.verdictFor m a = .allowBand := by
  rw [State.verdictFor, if_neg fun h => h.2 (served h.1), if_neg (Nat.not_lt.2 inside)]
  exact if_pos ⟨read, band⟩

variable (past : a.cwr = true ∨ 65536 * s.band.committed ≤ a.last)
include past

omit served inside in
/-- An access past step 5 is no read of the band. -/
theorem Access.not_band_read : ¬ (a.cwr = false ∧ a.last < 65536 * s.band.committed) := fun ⟨read, band⟩ =>
  past.elim (fun write => by rw [read] at write; cases write) (Nat.not_le.2 band)

/-- Step 6. -/
theorem State.verdictFor_admitted {i : RecIdx} (admits : s.isLowest (fun _ w => w.admits m a) i) :
    s.verdictFor m a = .allowWindow i := by
  rw [State.verdictFor, if_neg fun h => h.2 (served h.1), if_neg (Nat.not_lt.2 inside),
    if_neg (Access.not_band_read past), (s.admitting_eq_some m a i).2 admits]

variable (none_admits : s.noneInForce fun _ w => w.admits m a)
include none_admits

/-- Past step 6 no window admits the access. -/
theorem State.verdictFor_not_admitted : s.verdictFor m a =
    if a.cwr ∧ m ≠ 0 ∧ a.first < 65536 * s.band.committed then .deny .reserved none else s.denyByWindows m a := by
  rw [State.verdictFor, if_neg fun h => h.2 (served h.1), if_neg (Nat.not_lt.2 inside),
    if_neg (Access.not_band_read past), (s.admitting_eq_none m a).2 none_admits]

/-- Step 7. -/
theorem State.verdictFor_reserved (write : a.cwr = true) (other : m ≠ 0)
    (band : a.first < 65536 * s.band.committed) : s.verdictFor m a = .deny .reserved none :=
  (State.verdictFor_not_admitted served inside past none_admits).trans (if_pos ⟨write, other, band⟩)

variable (unreserved : a.cwr = false ∨ m = 0 ∨ 65536 * s.band.committed ≤ a.first)
include unreserved

theorem State.verdictFor_denied : s.verdictFor m a = s.denyByWindows m a := by
  refine (State.verdictFor_not_admitted served inside past none_admits).trans (if_neg fun ⟨write, other, band⟩ => ?_)
  rcases unreserved with read | own | above
  · rw [read] at write
    cases write
  · exact other own
  · exact Nat.not_le.2 band above

/-- Step 8. -/
theorem State.verdictFor_readOnly {i : RecIdx} (readOnly : s.isLowest (fun _ w => w.readOnlyFor m a) i) :
    s.verdictFor m a = .deny .readOnly (some i) := by
  rw [State.verdictFor_denied served inside past none_admits unreserved, State.denyByWindows,
    (s.readOnly_eq_some m a i).2 readOnly]

variable (none_readOnly : s.noneInForce fun _ w => w.readOnlyFor m a)
include none_readOnly

/-- Step 9. -/
theorem State.verdictFor_split {i : RecIdx} (meets : s.isLowest (fun _ w => w.meets m a) i) :
    s.verdictFor m a = .deny .split (some i) := by
  rw [State.verdictFor_denied served inside past none_admits unreserved, State.denyByWindows,
    (s.readOnly_eq_none m a).2 none_readOnly, (s.meeting_eq_some m a i).2 meets]

/-- Step 10. -/
theorem State.verdictFor_noWindow (none_meets : s.noneInForce fun _ w => w.meets m a) :
    s.verdictFor m a = .deny .noWindow none := by
  rw [State.verdictFor_denied served inside past none_admits unreserved, State.denyByWindows,
    (s.readOnly_eq_none m a).2 none_readOnly, (s.meeting_eq_none m a).2 none_meets]

end
end

/-! ### What an ALLOW needs (R104) -/

/-- Steps 8 to 10 deny. -/
theorem State.denyByWindows_callow (s : State) (m : Master) (a : Access) :
    (s.denyByWindows m a).out.callow = false := by
  unfold State.denyByWindows
  split <;> rfl

/-- A check is allowed in tests 5 and 6 alone: as a read of the committed band, or through a window that admits it. -/
theorem State.verdictFor_callow {s : State} {m : Master} {a : Access} (allow : (s.verdictFor m a).out.callow = true) :
    (a.cwr = false ∧ a.last < 65536 * s.band.committed) ∨ ∃ i w, (s.record i).window = some w ∧ w.admits m a := by
  unfold State.verdictFor at allow
  split at allow
  · cases allow
  · split at allow
    · cases allow
    · split at allow
      · next band => exact .inl band
      · split at allow
        · next i admits =>
          obtain ⟨⟨w, held, admitted⟩, -⟩ := (s.admitting_eq_some m a i).1 admits
          exact .inr ⟨i, w, held, admitted⟩
        · split at allow
          · cases allow
          · rw [s.denyByWindows_callow m a] at allow
            cases allow

/-- Nothing is allowed in STARTING, or under a code that names no master. -/
theorem State.verdict_callow {s : State} {a : Access} (allow : (s.verdict a).out.callow = true) :
    s.mode ≠ .starting ∧ ∃ m : Master, m.val = a.cmas.toNat ∧ (s.verdictFor m a).out.callow = true := by
  have running : s.mode ≠ .starting := fun starting => by
    rw [s.verdict_starting a starting] at allow
    cases allow
  rcases Nat.lt_or_ge a.cmas.toNat 6 with named | high
  · rw [s.verdict_master a ⟨a.cmas.toNat, named⟩ running (checkMaster_eq_some a.cmas _ rfl)] at allow
    exact ⟨running, _, rfl, allow⟩
  · rw [s.verdict_unnamed a running high] at allow
    cases allow

/-! ### A strobe on a READY unit (R98, R102) -/

/-- The unit is ANSWERING the access sampled, and the port shows its verdict. -/
theorem exec_checkStrobe_ready {s : State} (a : Access) (supply : s.pins.supply = true)
    (ready : s.check.phase = .ready) : ∃ t, exec (.checkStrobe a.cmas a.cadr a.cspan a.cwr) s = .next t ∧
      t.check = ⟨.answering a, (s.verdict a).out⟩ :=
  ⟨_, whenPowered_next (·.strobe a) s supply, by rw [s.strobe_ready a ready, State.setCheck_check]⟩

end Sys2Proof.Machine

open Sys2Proof Sys2Proof.Machine

/-- Settles O36: the ten tests of R101, each decided by its own lemma under the failure of those before it. -/
theorem checkVerdict : Obligations.CheckVerdict := by
  intro cmas cadr cspan cwr s supply ready last top
  obtain ⟨t, hexec, hcheck⟩ := exec_checkStrobe_ready ⟨cmas, cadr, cspan, cwr⟩ supply ready
  refine ⟨t, hexec, by rw [hcheck], ?_⟩
  intro deny allow
  have shows : ∀ {v : Verdict}, s.verdict ⟨cmas, cadr, cspan, cwr⟩ = v → t.check.out = v.out := fun hv => by
    rw [hcheck, hv]
  refine ⟨fun starting => shows (s.verdict_starting _ starting),
    fun running high => shows (s.verdict_unnamed _ running high), fun m running named => ?_⟩
  have master := s.verdict_master ⟨cmas, cadr, cspan, cwr⟩ m running (checkMaster_eq_some cmas m named)
  have decides : ∀ {v : Verdict}, s.verdictFor m ⟨cmas, cadr, cspan, cwr⟩ = v → t.check.out = v.out :=
    fun hv => shows (master.trans hv)
  refine ⟨fun maintenance other => decides (s.verdictFor_maint m _ maintenance other), fun served =>
    ⟨fun outside => decides (State.verdictFor_range served outside),
      fun inside read band => decides (State.verdictFor_band served inside read band), ?_⟩⟩
  intro (inside : Access.last ⟨cmas, cadr, cspan, cwr⟩ ≤ topByte) past fits
  refine ⟨fun i admits => decides (State.verdictFor_admitted served inside past admits), fun none_admits =>
    ⟨fun write other band => decides (State.verdictFor_reserved served inside past none_admits write other band), ?_⟩⟩
  intro unreserved readOnly meets
  exact ⟨fun i found => decides (State.verdictFor_readOnly served inside past none_admits unreserved found),
    fun none_readOnly =>
      ⟨fun i found => decides (State.verdictFor_split served inside past none_admits unreserved none_readOnly found),
        fun none_meets =>
          decides (State.verdictFor_noWindow served inside past none_admits unreserved none_readOnly none_meets)⟩⟩

/-- Settles O35: of the ten tests only the fifth and the sixth allow, and what they ask for is what the law says. -/
theorem checkLaw : Obligations.CheckLaw := by
  intro cmas cadr cspan cwr s t supply ready hexec allow
  obtain ⟨u, answered, hcheck⟩ := exec_checkStrobe_ready ⟨cmas, cadr, cspan, cwr⟩ supply ready
  obtain rfl := Host.Outcome.next.inj (hexec.symm.trans answered)
  rw [hcheck] at allow
  obtain ⟨running, m, named, by_master⟩ := State.verdict_callow allow
  refine ⟨running, fun write => ?_, fun read => ?_⟩
  all_goals obtain ⟨reads, band⟩ | ⟨i, w, held, owner, contains, mode⟩ := State.verdictFor_callow by_master
  · exact absurd (reads.symm.trans write) (by decide)
  · exact ⟨i, w, held, owner ▸ named, mode write, contains⟩
  · exact .inl band
  · exact .inr ⟨i, w, held, owner ▸ named, contains⟩

end

section
/-! PROOFS. WATCH SET, WATCH CLEAR and WATCH READ, and the layout of a watch record (R108 to R111, section 11.4). -/

namespace Sys2Proof.Machine

/-! ### The requests past the tests all requests share -/

/-- The kinds are read back from the word that carries their code (section 11.4). -/
theorem kindsOf_code {kinds : Word} {x : WatchKinds} (code : kinds.toNat = x.code) : kindsOf kinds = some x := by
  have word : kinds = BitVec.ofNat 16 x.code := by rw [← code, BitVec.ofNat_toNat, BitVec.setWidth_eq]
  rw [word]
  cases x <;> rfl

section
variable {s : State} {m : Master}

theorem exec_watchSet (base size : Word) {kinds : Word} {x : WatchKinds} (ho : s.takesOpen m)
    (code : kinds.toNat = x.code) : exec (.watchSet m base size kinds) s = .next
      ((watchSetAnswer m base.toNat size.toNat x (s.renewSession m)).reply m 0x28) := by
  refine (whenPowered_next _ s ho.1.1).trans ?_
  rw [takeWatchSet, kindsFormatOk, kindsOf_code code, Option.isSome_some,
    serve_gated _ _ (·.openGate m) _ _ (renewed_openGate ho), Option.getD_some]

theorem exec_watchClear (id : Word) (ho : s.takesOpen m) : exec (.watchClear m id) s = .next
    (((s.renewSession m).withWatch m id fun k w => ((s.renewSession m).setWatch k .free).ok [word w.hits]).reply m
      0x29) := by
  refine (whenPowered_next _ s ho.1.1).trans ?_
  rw [takeWatchClear, serve_gated _ _ (·.openGate m) _ _ (renewed_openGate ho)]

theorem exec_watchRead (id : Word) (ho : s.takesOpen m) : exec (.watchRead m id) s = .next
    (((s.renewSession m).withWatch m id fun k w =>
      ((s.renewSession m).setWatch k (.armed { w with hits := 0 })).ok w.words).reply m 0x2A) := by
  refine (whenPowered_next _ s ho.1.1).trans ?_
  rw [takeWatchRead, serve_gated _ _ (·.openGate m) _ _ (renewed_openGate ho)]

end

/-! ### WATCH SET, test by test (R109) -/

theorem State.findFreeWatch_eq_some (s : State) (k : WatchIdx) :
    s.findFreeWatch = some k ↔ s.watch k = .free ∧ ∀ j, j < k → s.watch j ≠ .free := by
  have isNone : ∀ r : WatchRecord, r.watch.isNone = true ↔ r = .free := fun r => by cases r <;> simp [WatchRecord.watch]
  rw [State.findFreeWatch, find?_finRange_eq_some, isNone]
  simp only [← Bool.not_eq_true, isNone, ne_eq]

theorem State.findFreeWatch_eq_none (s : State) (full : ∀ k, s.watch k ≠ .free) : s.findFreeWatch = none :=
  Option.eq_none_iff_forall_ne_some.2 fun k found => full k ((s.findFreeWatch_eq_some k).1 found).1

@[simp] theorem State.renewSession_watchCount (s : State) (m k : Master) :
    (s.renewSession m).watchCount k = s.watchCount k := by simp [State.watchCount]

/-- The ARMED records of a master, counted in the words of claims (R109). -/
theorem State.watchCount_eq_countP (s : State) (m : Master) : s.watchCount m =
    (List.finRange 8).countP fun k => (s.watch k).watch.any fun w => decide (w.owner = m) :=
  List.countP_eq_length_filter.symm

section
variable {s : State} {m : Master} {base size : Nat} {kinds : WatchKinds}

theorem watchSetAnswer_badRange (outside : ¬ (1 ≤ size ∧ base + size ≤ 16384)) :
    watchSetAnswer m base size kinds s = s.refuse .badRange := if_pos (by rw [Config.granules]; omega)

variable (range : 1 ≤ size ∧ base + size ≤ 16384)
include range

theorem watchSetAnswer_inRange : watchSetAnswer m base size kinds s =
    if 3 ≤ s.watchCount m then s.refuse .watchFull
    else s.findFreeWatch.elim (s.refuse .watchFull) fun k =>
      (s.setWatch k (.armed ⟨m, base, size, kinds, 0, none⟩)).ok [word k.val] := by
  refine (if_neg (by rw [Config.granules]; omega)).trans ?_
  rw [Config.maxWatchesPerMaster]
  cases s.findFreeWatch <;> rfl

theorem watchSetAnswer_watchFull (full : 3 ≤ s.watchCount m ∨ ∀ k, s.watch k ≠ .free) :
    watchSetAnswer m base size kinds s = s.refuse .watchFull := by
  rw [watchSetAnswer_inRange range]
  split
  · rfl
  · next few => rw [s.findFreeWatch_eq_none (full.resolve_left few), Option.elim_none]

theorem watchSetAnswer_armed (few : s.watchCount m < 3) {k : WatchIdx} (free : s.watch k = .free)
    (lowest : ∀ j, j < k → s.watch j ≠ .free) : watchSetAnswer m base size kinds s =
      (s.setWatch k (.armed ⟨m, base, size, kinds, 0, none⟩)).ok [word k.val] := by
  rw [watchSetAnswer_inRange range, if_neg (Nat.not_le.2 few), (s.findFreeWatch_eq_some k).2 ⟨free, lowest⟩,
    Option.elim_some]

end

/-! ### The tests of WATCH CLEAR and WATCH READ (R110, R111) -/

section
variable {s : State} {m : Master} {id : Word} {f : WatchIdx → Watch → Answer}

theorem State.withWatch_badOperand (high : 8 ≤ id.toNat) : s.withWatch m id f = s.refuse .badOperand := by
  rw [State.withWatch, watchOf_eq_none id high]

variable {k : WatchIdx} (named : id.toNat = k.val)
include named

theorem State.withWatch_noWatch (free : s.watch k = .free) : s.withWatch m id f = s.refuse .noWatch := by
  rw [State.withWatch, watchOf_eq_some id k named]
  simp only [free, WatchRecord.watch]

theorem State.withWatch_armed {w : Watch} (armed : s.watch k = .armed w) :
    s.withWatch m id f = if w.owner ≠ m then s.refuse .notOwner else f k w := by
  rw [State.withWatch, watchOf_eq_some id k named]
  simp only [armed, WatchRecord.watch]

end

/-! ### The layout of a watch record (section 11.4) -/

theorem WatchKinds.code_lt (x : WatchKinds) : x.code < 4 := by cases x <;> decide

theorem DenyReason.code_lt (r : DenyReason) : r.code < 8 := by cases r <;> decide

/-- The first word: kinds and owner. -/
theorem watch_kindsWord (kinds owner : Nat) (hk : kinds < 4) (ho : owner < 8) :
    word (16 * kinds + owner) = 0#10 ++ BitVec.ofNat 2 kinds ++ 0#1 ++ BitVec.ofNat 3 owner := by
  apply BitVec.eq_of_toNat_eq
  simp only [word, toNat_fields, BitVec.toNat_ofNat]
  omega

/-- The fourth word: whether there is a last hit, its master, and the hit count. -/
theorem watch_hitsWord (present : Bool) (hitter hits : Nat) (hh : hitter < 8) (hc : hits < 256) :
    word (32768 * present.toNat + 256 * hitter + hits) =
      BitVec.ofBool present ++ 0#4 ++ BitVec.ofNat 3 hitter ++ BitVec.ofNat 8 hits := by
  apply BitVec.eq_of_toNat_eq
  have := present.toNat_lt
  simp only [word, toNat_fields, toNat_ofBool_field, BitVec.toNat_ofNat]
  omega

/-- The seventh word: the reason of a denied last hit, whether it was allowed, and its kind. -/
theorem watch_verdictWord (reason : Nat) (allowed write : Bool) (hr : reason < 8) :
    word (4 * reason + 2 * allowed.toNat + write.toNat) =
      0#11 ++ BitVec.ofNat 3 reason ++ BitVec.ofBool allowed ++ BitVec.ofBool write := by
  apply BitVec.eq_of_toNat_eq
  have := allowed.toNat_lt
  have := write.toNat_lt
  simp only [word, toNat_fields, toNat_ofBool_field, BitVec.toNat_ofNat]
  omega

/-- The bits about the last hit are 0 while there is none (log entry 30). -/
theorem Watch.words_eq (w : Watch) : w.words = [
    word (16 * w.kinds.code + w.owner.val), word w.base, word w.size,
    word (32768 * w.last.isSome.toNat + 256 * (w.last.elim 0 fun h => h.hitter.val) + w.hits),
    word ((w.last.elim 0 Hit.address).toNat / 65536), word ((w.last.elim 0 Hit.address).toNat % 65536),
    word (4 * (w.last.elim 0 fun h => h.denied.elim 0 DenyReason.code) +
      2 * (w.last.any fun h => h.denied.isNone).toNat + (w.last.any fun h => decide (h.kind = .write)).toNat)] := by
  unfold Watch.words
  cases w.last <;> rfl

end Sys2Proof.Machine

open Sys2Proof Sys2Proof.Machine

/-- Settles O38: the tests of the three requests in their order, and the seven words of a record field by field. -/
theorem watchRequests : Obligations.WatchRequests := by
  refine ⟨fun m base size kinds x s ho code => ?set, fun m id s ho => ?clearRead, rfl, fun w hits => ?layout⟩
  case set =>
    intro request inRange owned
    have answer := exec_watchSet base size ho code
    have count : (s.renewSession m).watchCount m = owned :=
      (s.renewSession_watchCount m m).trans (s.watchCount_eq_countP m)
    refine ⟨fun outside => ?badRange, fun range full => ?watchFull, fun k range few free lowest => ?armed⟩
    case badRange =>
      rw [watchSetAnswer_badRange outside] at answer
      exact answer
    case watchFull =>
      rw [watchSetAnswer_watchFull range (by simpa only [count, State.renewSession_watch] using full)] at answer
      exact answer
    case armed =>
      rw [watchSetAnswer_armed range (count ▸ few) (by rwa [State.renewSession_watch])
        (by simpa only [State.renewSession_watch] using lowest)] at answer
      exact answer
  case clearRead =>
    have clear := exec_watchClear id ho
    have read := exec_watchRead id ho
    refine ⟨fun high => ?badOperand, fun k named => ⟨fun free => ?noWatch, fun w armed => ?held⟩⟩
    case badOperand =>
      rw [State.withWatch_badOperand high] at clear read
      exact ⟨clear, read⟩
    case noWatch =>
      rw [← s.renewSession_watch m] at free
      rw [State.withWatch_noWatch named free] at clear read
      exact ⟨clear, read⟩
    case held =>
      rw [← s.renewSession_watch m] at armed
      rw [State.withWatch_armed named armed] at clear read
      refine ⟨fun other => ?_, fun owner => ?_⟩
      · rw [if_pos other] at clear read
        exact ⟨clear, read⟩
      · rw [if_neg (not_not.2 owner)] at clear read
        exact ⟨clear, read⟩
  case layout =>
    intro address
    have owner := w.owner.isLt
    have hitter : (w.last.elim 0 fun h => h.hitter.val) < 8 := by
      cases w.last with
      | none => decide
      | some h => exact Nat.lt_trans h.hitter.isLt (by decide)
    have reason : (w.last.elim 0 fun h => h.denied.elim 0 DenyReason.code) < 8 := by
      rcases w.last with - | ⟨_, _, _, - | reason⟩
      · decide
      · exact Nat.zero_lt_succ 7
      · exact reason.code_lt
    rw [w.words_eq, watch_kindsWord _ _ w.kinds.code_lt (by omega), watch_hitsWord _ _ _ hitter (by omega),
      word_addressHigh, word_addressLow, watch_verdictWord _ _ _ reason]
    rfl

end

section
/-! PROOFS. The notice unit: raises, NOTICE READ, NOTICE ACK and NOTICE ENABLE, and the layout of the notice reply (R115
to R121, section 11.4). -/

namespace Sys2Proof.Machine

/-! ### The operands of NOTICE ACK and NOTICE ENABLE (section 11.4) -/

/-- A flag mask below bit 12 keeps its encoding (R162). -/
theorem maskFormatOk_of_lt {mask : Word} (small : mask.toNat < 4096) : maskFormatOk mask = true := by
  refine beq_iff_eq.2 (BitVec.eq_of_toNat_eq ?_)
  rw [BitVec.extractLsb'_toNat, Nat.shiftRight_eq_div_pow, Nat.div_eq_of_lt small]
  rfl

theorem maskFlags_eq (mask : Word) : maskFlags mask = mask.setWidth 12 :=
  (BitVec.setWidth_eq_extractLsb' (by decide)).symm

/-- The word that carries a line enable: it keeps its encoding, and it is 1 exactly when the line is enabled. -/
theorem lineWord_spec (line : Bool) :
    lineFormatOk (if line then 1 else 0) = true ∧ decide ((if line then 1 else 0 : Word) = 1) = line := by
  cases line <;> decide

theorem word_bool (b : Bool) : word b.toNat = if b then 1 else 0 := by cases b <;> rfl

/-! ### The line (R117) -/

theorem Notice.level_eq (n : Notice) (mode : PartMode) : n.level mode =
    (decide (mode ≠ .starting) && n.lineEnable && decide (n.flags &&& n.enables ≠ 0)) := by
  simp only [Notice.level, bne, beq_eq_decide, decide_not]

/-- Outside STARTING the part mode holds no line back. -/
theorem Notice.level_running (n : Notice) {mode : PartMode} (running : mode ≠ .starting) :
    n.level mode = (n.lineEnable && decide (n.flags &&& n.enables ≠ 0)) := by
  rw [n.level_eq, decide_eq_true running, Bool.true_and]

/-! ### The records the requests leave (R120, R121) -/

section
variable (n : Notice) {mode : PartMode} (running : mode ≠ .starting)
include running

theorem Notice.acknowledged_refresh (mask : BitVec 12) : (n.acknowledged mask).refresh mode = { n with
    flags := n.flags &&& ~~~mask
    latch := if mask.getLsbD 6 ∧ n.flags.getLsbD 6 then none else n.latch
    more := if mask.getLsbD 6 ∧ n.flags.getLsbD 6 then false else n.more
    line := n.lineEnable && decide (n.flags &&& ~~~mask &&& n.enables ≠ 0) } := by
  unfold Notice.acknowledged
  split
  · next denied =>
    have both : mask.getLsbD 6 ∧ n.flags.getLsbD 6 := denied
    rw [if_pos both, if_pos both, Notice.refresh, Notice.level_running _ running]
  · next other =>
    have apart : ¬ (mask.getLsbD 6 ∧ n.flags.getLsbD 6) := other
    rw [if_neg apart, if_neg apart, Notice.refresh, Notice.level_running _ running]

theorem Notice.enabled_refresh (enables : BitVec 12) (line : Bool) :
    Notice.refresh { n with enables := enables, lineEnable := line } mode = { n with
      enables := enables, lineEnable := line, line := line && decide (n.flags &&& enables ≠ 0) } := by
  rw [Notice.refresh, Notice.level_running _ running]

end

/-! ### The requests past the tests all requests share (R118) -/

section
variable {s : State} {m : Master}

theorem renewed_readyGate (running : s.mode ≠ .starting) : (s.renewSession m).readyGate = none := by
  rw [State.renewSession_readyGate, s.readyGate_none running]

variable (supply : s.pins.supply = true) (running : s.mode ≠ .starting)
include supply running

theorem exec_noticeRead :
    exec (.noticeRead m) s = .next (((s.renewSession m).ok (s.notice m).words).reply m 0x30) := by
  refine (whenPowered_next _ s supply).trans ?_
  rw [takeNoticeRead, serve_gated _ _ (·.readyGate) _ _ (renewed_readyGate running), State.renewSession_notice]

theorem exec_noticeAck {mask : Word} (small : mask.toNat < 4096) : exec (.noticeAck m mask) s =
    .next ((noticeAckAnswer m (mask.setWidth 12) (s.renewSession m)).reply m 0x31) := by
  refine (whenPowered_next _ s supply).trans ?_
  rw [takeNoticeAck, maskFormatOk_of_lt small, serve_gated _ _ (·.readyGate) _ _ (renewed_readyGate running),
    maskFlags_eq]

theorem exec_noticeEnable {mask : Word} (small : mask.toNat < 4096) (line : Bool) :
    exec (.noticeEnable m mask (if line then 1 else 0)) s =
      .next ((noticeEnableAnswer m (mask.setWidth 12) line (s.renewSession m)).reply m 0x32) := by
  obtain ⟨format, read⟩ := lineWord_spec line
  refine (whenPowered_next _ s supply).trans ?_
  rw [takeNoticeEnable, maskFormatOk_of_lt small, format, Bool.and_true,
    serve_gated _ _ (·.readyGate) _ _ (renewed_readyGate running), maskFlags_eq, read]

end

/-! ### The layout of the notice reply (section 11.4) -/

/-- The third word: span, reason and kind of the capture, the more mark, whether there is a capture, the line enable. -/
theorem notice_captureWord (span reason : Nat) (write more present line : Bool) (hs : span < 128) (hr : reason < 8) :
    word (256 * span + 16 * reason + 8 * write.toNat + 4 * more.toNat + 2 * present.toNat + line.toNat) =
      0#1 ++ BitVec.ofNat 7 span ++ 0#1 ++ BitVec.ofNat 3 reason ++ BitVec.ofBool write ++ BitVec.ofBool more ++
        BitVec.ofBool present ++ BitVec.ofBool line := by
  apply BitVec.eq_of_toNat_eq
  have := write.toNat_lt
  have := more.toNat_lt
  have := present.toNat_lt
  have := line.toNat_lt
  simp only [word, toNat_fields, toNat_ofBool_field, BitVec.toNat_ofNat]
  omega

/-- An empty latch leaves the capture fields 0 (R119). -/
theorem Notice.words_eq (n : Notice) : n.words = [n.flags.setWidth 16, n.enables.setWidth 16,
    word (256 * n.latch.elim 0 Capture.span + 16 * (n.latch.elim 0 fun c => c.reason.code) +
      8 * (n.latch.any fun c => decide (c.kind = .write)).toNat + 4 * n.more.toNat + 2 * n.latch.isSome.toNat +
      n.lineEnable.toNat),
    word ((n.latch.elim 0 Capture.address).toNat / 65536), word ((n.latch.elim 0 Capture.address).toNat % 65536)] := by
  unfold Notice.words
  cases n.latch <;> rfl

end Sys2Proof.Machine

open Sys2Proof Sys2Proof.Machine

/-- Settles O39: the record a raise and each of the three requests leaves, and the five words of the reply field by
field. -/
theorem noticeUnit : Obligations.NoticeUnit := by
  refine ⟨fun s m f => ?raise,
    fun m s supply running => ⟨?read, fun mask small => ?ack, fun mask line small => ?enable⟩,
    rfl, rfl, fun n span => ?layout⟩
  case raise => rw [State.raise, Notice.refresh, Notice.level_eq]
  case read => exact exec_noticeRead supply running
  case ack =>
    have denied : (mask.setWidth 12).getLsbD 6 = mask.getLsbD 6 := BitVec.getLsbD_setWidth 12 mask 6
    have answer := exec_noticeAck (m := m) supply running small
    rw [noticeAckAnswer, State.renewSession_mode, State.renewSession_notice,
      Notice.acknowledged_refresh _ running, denied] at answer
    exact answer
  case enable =>
    intro enables
    have answer := exec_noticeEnable (m := m) supply running small line
    rw [noticeEnableAnswer, State.renewSession_mode, State.renewSession_notice,
      Notice.enabled_refresh _ running, word_bool] at answer
    exact answer
  case layout =>
    intro address
    have spanBound : n.latch.elim 0 Capture.span < 128 := by
      cases latch : n.latch with
      | none => decide
      | some c => exact span c latch
    have reasonBound : (n.latch.elim 0 fun c => c.reason.code) < 8 := by
      cases n.latch with
      | none => decide
      | some c => exact c.reason.code_lt
    rw [n.words_eq, notice_captureWord _ _ _ _ _ _ spanBound reasonBound, word_addressHigh, word_addressLow]

end

section
/-! PROOFS. The read of a slot, decided by its content (R150), and the end of STARTING (R147, R152, R153). -/

namespace Sys2Proof.Machine

/-! ### The window an image stands for (R150, conditions 1 and 2) -/

/-- The check value of an image agrees and its fields are in range, for this owner and this mode. -/
abbrev imageStands (x : Image) (m : Master) (mode : AccessMode) : Prop :=
  x.owner = m.val ∧ x.mode = some mode ∧ x.check = Config.imageCheck x.owner x.base x.size x.mode ∧ 1 ≤ x.size ∧
    x.base + x.size ≤ 16384

/-- The LIVE window, bound to a slot, that the slot's image is restored to. -/
abbrev restoredWindow (x : Image) (k : SlotIdx) (m : Master) (mode : AccessMode) : Window :=
  ⟨m, x.base, x.size, mode, .standing k, none, 0, false⟩

theorem imageWindow_eq_some {x : Image} {k : SlotIdx} {w : Window} :
    imageWindow x k = some w ↔ ∃ m mode, imageStands x m mode ∧ w = restoredWindow x k m mode := by
  unfold imageWindow Config.granules
  constructor
  · intro found
    split at found
    · next owner =>
      split at found
      · next mode code =>
        split at found
        · next range =>
          obtain ⟨check, size, top⟩ := range
          exact ⟨⟨x.owner, owner⟩, mode, ⟨rfl, code, code ▸ check, size, top⟩, (Option.some.inj found).symm⟩
        · cases found
      · cases found
    · cases found
  · rintro ⟨m, mode, ⟨owner, code, check, range⟩, rfl⟩
    rw [dif_pos (owner ▸ m.isLt)]
    simp only [code] at check ⊢
    rw [if_pos ⟨check, range⟩]
    simp only [owner]

/-- A window is accepted when no window already restored conflicts with it, and it is master 0's or clear of the
committed band (R150, conditions 3 and 4). -/
theorem State.accepts_iff (s : State) (w : Window) : s.accepts w = true ↔
    s.noneInForce (fun _ v => Region.conflicts w.region v.region = true) ∧
      (w.owner ≠ 0 → 64 * s.band.committed ≤ w.base) := by
  rw [State.accepts, Bool.and_eq_true, Option.isNone_iff_eq_none, s.blocker_eq_none, Bool.or_eq_true,
    decide_eq_true_iff, bandCovers, ← decide_not, decide_eq_true_iff, Nat.not_lt, or_iff_not_imp_left]

/-! ### One slot decided (R150) -/

section
variable {s : State} {k : SlotIdx}

theorem State.restoreSlot_blank (blank : (s.slot k).content = .blank) : s.restoreSlot k = s := by
  rw [State.restoreSlot, blank]

theorem State.restoreSlot_damaged (damaged : (s.slot k).content = .damaged) :
    s.restoreSlot k = s.reportDamaged k := by
  rw [State.restoreSlot, damaged]

variable {x : Image} (valid : (s.slot k).content = .valid x)
include valid

theorem State.restoreSlot_accepted {m : Master} {mode : AccessMode} {i : RecIdx} (stands : imageStands x m mode)
    (accepted : s.accepts (restoredWindow x k m mode) = true) (free : s.lowestFree i) :
    s.restoreSlot k =
      ((s.setRecord i ⟨nextGeneration (s.record i).generation, .held (restoredWindow x k m mode)⟩).setTally m
        ⟨(s.tally m).usage, (s.tally m).windows + 1⟩).setSlot k { s.slot k with binding := some i } := by
  have window : imageWindow x k = some (restoredWindow x k m mode) := imageWindow_eq_some.2 ⟨m, mode, stands, rfl⟩
  rw [State.restoreSlot, valid]
  simp only [window, if_pos accepted]
  rw [State.restoreWindow, (s.findFree_eq_some i).2 free]
  rfl

theorem State.restoreSlot_rejected
    (refused : ∀ m mode, imageStands x m mode → ¬ s.accepts (restoredWindow x k m mode) = true) :
    s.restoreSlot k = s.reportRejected k := by
  rw [State.restoreSlot, valid]
  cases window : imageWindow x k with
  | none => simp only [window]
  | some w =>
    obtain ⟨m, mode, stands, rfl⟩ := imageWindow_eq_some.1 window
    simp only [window, if_neg (refused m mode stands)]

end

/-- Deciding a slot leaves the reset cause (R147). -/
theorem State.restoreSlot_cause (s : State) (k : SlotIdx) : (s.restoreSlot k).startUp.cause = s.startUp.cause := by
  unfold State.restoreSlot
  split
  · rfl
  · rfl
  · split
    · rfl
    · split
      · rw [State.restoreWindow_startUp]
      · rfl

/-! ### The end of STARTING (R152) -/

/-- The part when STARTING has ended and the engine has yet to choose its first target. -/
def State.concluded (s : State) : State :=
  (if s.startUp.reportEmpty then s.entered else s.entered.raise 0 .startloss).setEngine .idle

theorem State.endStarting_eq_kickEngine (s : State) : s.endStarting = s.concluded.kickEngine := rfl

theorem State.concluded_startUp (s : State) : s.concluded.startUp = s.startUp.finish s.pins.maint := by
  unfold State.concluded
  split <;> rfl

theorem State.concluded_clock (s : State) : s.concluded.clock = some 0 := by
  unfold State.concluded
  split <;> rfl

/-- Beside start-up control and the clock, the end of STARTING changes the notices and the engine. -/
theorem State.concluded_frame (s : State) : s.concluded.table = s.table ∧ s.concluded.tallies = s.tallies ∧
    s.concluded.slots = s.slots ∧ s.concluded.band = s.band ∧ s.concluded.sessions = s.sessions ∧
    s.concluded.queue = s.queue ∧ s.concluded.failures = s.failures ∧ s.concluded.watches = s.watches ∧
    s.concluded.check = s.check ∧ s.concluded.links = s.links ∧ s.concluded.pins = s.pins ∧
    s.concluded.pending = s.pending := by
  unfold State.concluded
  split <;> simp [State.entered]

theorem StartUp.reportEmpty_iff (u : StartUp) :
    u.reportEmpty = true ↔ u.damaged = 0 ∧ u.rejected = 0 ∧ u.bandDamaged = false := by
  simp [StartUp.reportEmpty, and_assoc]

/-- The line of every master follows the new mode, and STARTLOSS is set for master 0 when there is something to
report. -/
theorem State.concluded_notice (s : State) (m : Master) : s.concluded.notice m = Notice.refresh { s.notice m with
    flags := (s.notice m).flags ||| if m = 0 ∧ s.startUp.reportEmpty = false then Flag.startloss.mask else 0#12 }
    s.concluded.mode := by
  rw [show s.concluded.mode = s.entered.mode from congrArg StartUp.mode s.concluded_startUp]
  cases empty : s.startUp.reportEmpty with
  | true =>
    rw [State.concluded, if_pos empty, State.setEngine_notice, s.entered_notice, if_neg (by simp), BitVec.or_zero]
  | false =>
    rw [State.concluded, if_neg (by simp [empty]), State.setEngine_notice, State.raise_notice, s.entered_notice,
      s.entered_notice]
    by_cases master : m = 0
    · rw [if_pos master.symm, if_pos ⟨master, rfl⟩, master]
      rfl
    · rw [if_neg (Ne.symm master), if_neg fun both => master both.1, BitVec.or_zero]

/-- The read of slot 11 ends STARTING once the slot is decided (R149, R152). -/
theorem State.readSlot_last {s : State} (reading : s.engine = .reading (.slot 11)) (maint : Bool) :
    s.readSlot maint = ((s.setPins { s.pins with maint := maint }).restoreSlot 11).endStarting := by
  simp [State.readSlot, reading]

end Sys2Proof.Machine

open Sys2Proof Sys2Proof.Machine

/-- Settles O48: the four ways to decide slot 11 are the ones of the restore, and the rest is what the end of STARTING
changes. -/
theorem startingEnds : Obligations.StartingEnds := by
  intro s decided maint supply reading content seen marked inRange clear ways flag report
  have accepts : ∀ x m mode, seen.accepts (restoredWindow x 11 m mode) = true ↔ clear x m mode := fun x m mode =>
    seen.accepts_iff _
  have restored : seen.restoreSlot 11 = decided := by
    obtain ⟨blank, rfl⟩ | ⟨damaged, rfl⟩ | ⟨x, m, mode, i, valid, stands, free, lowest, rfl⟩ |
      ⟨x, valid, refused, rfl⟩ := ways
    · exact State.restoreSlot_blank blank
    · exact State.restoreSlot_damaged damaged
    · exact State.restoreSlot_accepted (s := seen) valid stands ((accepts x m mode).2 free) lowest
    · exact State.restoreSlot_rejected valid fun m mode stands => refused m mode stands ∘ (accepts x m mode).1
  obtain ⟨band, sessions, queue, failures, watches, check, links, pins, pending, cause, notice⟩ :
      decided.band = s.band ∧ decided.sessions = s.sessions ∧ decided.queue = s.queue ∧
      decided.failures = s.failures ∧ decided.watches = s.watches ∧ decided.check = s.check ∧
      decided.links = s.links ∧ decided.pins = { s.pins with maint := maint } ∧ decided.pending = s.pending ∧
      decided.startUp.cause = s.startUp.cause ∧ ∀ m, decided.notice m = s.notice m := by
    rw [← restored]
    simp [seen, State.restoreSlot_cause]
  have startUp : decided.concluded.startUp =
      { report with maintenance := flag, mode := if flag then .maintenance else .running } := by
    rw [decided.concluded_startUp, StartUp.finish, pins, cause]
  have frame := decided.concluded_frame
  rw [band, sessions, queue, failures, watches, check, links, pins, pending] at frame
  obtain ⟨table, tallies, slots, band, sessions, queue, failures, watches, check, links, pins, pending⟩ := frame
  refine ⟨_, decided.concluded, ?exec, rfl, rfl, startUp, decided.concluded_clock, table, tallies, slots, band,
    sessions, queue, failures, watches, check, links, pins, pending, fun m => ?line, fun m peer => ?peers,
    ?startloss⟩
  case exec =>
    rw [← State.endStarting_eq_kickEngine, ← restored, ← State.readSlot_last reading]
    exact whenPowered_next (·.readSlot maint) s supply
  case line =>
    rw [decided.concluded_notice, notice]
    exact ⟨rfl, rfl, rfl, rfl, rfl⟩
  case peers =>
    rw [decided.concluded_notice, notice, Notice.refresh_flags, if_neg fun loss => peer loss.1, BitVec.or_zero]
  case startloss =>
    rw [decided.concluded_notice, notice, Notice.refresh_flags]
    by_cases empty : report.reportEmpty = true
    · rw [if_neg fun loss => Bool.eq_false_iff.1 loss.2 empty, if_pos (report.reportEmpty_iff.1 empty)]
      rfl
    · rw [if_pos ⟨rfl, Bool.eq_false_iff.2 empty⟩, if_neg (mt report.reportEmpty_iff.2 empty)]

end

section
/-! PROOFS. The store engine's choice of its next target: what each mark calls for, and the band cell ahead of the slots
(R127, R128, R130, R142). -/

namespace Sys2Proof.Machine

/-! ### What a slot's mark calls for -/

section
variable {s : State} {k : SlotIdx}

theorem State.slotOperation_unmarked (mark : (s.slot k).mark = .none) : s.slotOperation k = none := by
  rw [State.slotOperation, mark]

theorem State.slotOperation_clearDue (mark : (s.slot k).mark = .clearDue) :
    s.slotOperation k = some (.erasingForClear k) := by
  rw [State.slotOperation, mark]

theorem State.slotOperation_writeDue (mark : (s.slot k).mark = .writeDue) {i : RecIdx} {w : Window}
    (bound : (s.slot k).binding = some i) (held : (s.record i).window = some w) :
    s.slotOperation k = some (.erasingForWrite k w.image i) := by
  rw [State.slotOperation, mark]
  simp [bound, held]

/-- An operation a mark calls for erases the slot, for a clear or for a write of the bound window. -/
theorem State.slotOperation_cases {e : Engine} (calls : s.slotOperation k = some e) :
    e = .erasingForClear k ∨ ∃ image i, e = .erasingForWrite k image i := by
  unfold State.slotOperation at calls
  split at calls
  · cases calls
  · exact .inl (Option.some.inj calls).symm
  · obtain ⟨i, -, found⟩ := Option.bind_eq_some_iff.1 calls
    obtain ⟨w, -, rfl⟩ := Option.map_eq_some_iff.1 found
    exact .inr ⟨w.image, i, rfl⟩

theorem State.findMarked_eq_some :
    s.findMarked = some k ↔ s.slotOperation k ≠ none ∧ ∀ j, j < k → s.slotOperation j = none := by
  simp [State.findMarked, find?_finRange_eq_some, Option.isSome_iff_ne_none]

theorem State.findMarked_eq_none : s.findMarked = none ↔ ∀ j, s.slotOperation j = none := by
  simp [State.findMarked]

end

/-! ### The choice -/

section
variable {s : State}

/-- A band-cell write that is due comes first (R142). -/
theorem State.chooseTarget_band {v : Nat} (due : s.band.writeValue = some v) :
    s.chooseTarget = s.beginBandWrite v := by
  rw [State.chooseTarget, due]

/-- The lowest slot whose mark calls for an operation comes next. -/
theorem State.chooseTarget_slot (quiet : s.band.writeValue = none) {k : SlotIdx} {e : Engine}
    (calls : s.slotOperation k = some e) (lowest : ∀ j, j < k → s.slotOperation j = none) :
    s.chooseTarget = s.beginSlotOperation k e := by
  have found : s.findMarked = some k := State.findMarked_eq_some.2 ⟨by simp [calls], lowest⟩
  rw [State.chooseTarget, quiet]
  simp only [found, calls]

/-- With nothing due, the engine stays as it is. -/
theorem State.chooseTarget_nothing (quiet : s.band.writeValue = none) (unmarked : ∀ k, s.slotOperation k = none) :
    s.chooseTarget = s := by
  rw [State.chooseTarget, quiet]
  simp only [State.findMarked_eq_none.2 unmarked]

/-- All the choice can do: the band cell, a slot, or nothing. -/
theorem State.chooseTarget_cases (s : State) :
    (∃ v, s.band.writeValue = some v ∧ s.chooseTarget = s.beginBandWrite v) ∨
    (∃ k e, s.slotOperation k = some e ∧ s.chooseTarget = s.beginSlotOperation k e) ∨
    (s.band.writeValue = none ∧ (∀ k, s.slotOperation k = none) ∧ s.chooseTarget = s) := by
  cases due : s.band.writeValue with
  | some v => exact .inl ⟨v, rfl, State.chooseTarget_band due⟩
  | none =>
    cases found : s.findMarked with
    | none =>
      have unmarked := State.findMarked_eq_none.1 found
      exact .inr (.inr ⟨rfl, unmarked, State.chooseTarget_nothing due unmarked⟩)
    | some k =>
      obtain ⟨calls, lowest⟩ := State.findMarked_eq_some.1 found
      obtain ⟨e, he⟩ := Option.ne_none_iff_exists'.1 calls
      exact .inr (.inl ⟨k, e, he, State.chooseTarget_slot due he lowest⟩)

theorem BandControl.writeValue_of_not_due {b : BandControl} (quiet : b.writeDue = false) : b.writeValue = none := by
  simp [BandControl.writeValue, quiet]

theorem BandControl.writeValue_eq_some {b : BandControl} {v : Nat} :
    b.writeValue = some v ↔ b.writeDue = true ∧ b.pending = some v := by
  simp [BandControl.writeValue]

end

end Sys2Proof.Machine

open Sys2Proof Sys2Proof.Machine

/-- Settles O42: a busy engine or a part in STARTING makes no choice, and otherwise each clause gives what the choice
finds due first. -/
theorem engineChoice : Obligations.EngineChoice := by
  intro s
  refine ⟨fun rests => rests.elim s.kickEngine_busy s.kickEngine_starting, fun idle running => ?_⟩
  rw [s.kickEngine_idle idle running]
  refine ⟨fun v due pending => ?_, fun quiet => ⟨fun unmarked => ?_, fun k lower => ⟨fun clear => ?_, ?_⟩⟩⟩
  · exact State.chooseTarget_band (BandControl.writeValue_eq_some.2 ⟨due, pending⟩)
  · exact State.chooseTarget_nothing (BandControl.writeValue_of_not_due quiet) fun k =>
      State.slotOperation_unmarked (unmarked k)
  · exact State.chooseTarget_slot (BandControl.writeValue_of_not_due quiet) (State.slotOperation_clearDue clear)
      fun j hj => State.slotOperation_unmarked (lower j hj)
  · intro i w write bound held
    have window : (s.record i).window = some w := ((s.record i).window_eq_some w).2 held
    exact State.chooseTarget_slot (BandControl.writeValue_of_not_due quiet)
      (State.slotOperation_writeDue write bound window) fun j hj => State.slotOperation_unmarked (lower j hj)

end

section
/-! PROOFS. The laws of the slots and of the store engine as predicates of the state, the rules of the writers for them,
and that the engine's choice restores the engine's law (R125, R127, R142). -/

namespace Sys2Proof.Machine

/-! ### Windows that stand (R125) -/

theorem Window.slot_eq_some {w : Window} {k : SlotIdx} : w.slot = some k ↔ w.kind = .standing k := by
  unfold Window.slot
  cases w.kind <;> simp

theorem Window.slot_eq_none {w : Window} : w.slot = none ↔ w.isStanding = false := by
  unfold Window.slot Window.isStanding
  cases w.kind <;> simp

/-- The slot that the window of a record stands in, if it holds one that stands. -/
def WindowRecord.slot (r : WindowRecord) : Option SlotIdx := r.window.bind Window.slot

@[simp] theorem WindowRecord.slot_held (g : Byte) (w : Window) : (⟨g, .held w⟩ : WindowRecord).slot = w.slot := rfl
@[simp] theorem WindowRecord.slot_free (g : Byte) (c : Option RetireCause) :
    (⟨g, .free c⟩ : WindowRecord).slot = none := rfl

theorem WindowRecord.slot_of_some {r : WindowRecord} {w : Window} (h : r.window = some w) : r.slot = w.slot := by
  simp [WindowRecord.slot, h]

theorem WindowRecord.slot_of_none {r : WindowRecord} (h : r.window = none) : r.slot = none := by
  simp [WindowRecord.slot, h]

/-! ### The binding law -/

section
variable {s t : State} {i : RecIdx} {k : SlotIdx}

theorem State.bindingLaw_iff : s.bindingLaw ↔
    (∀ i k, (s.record i).slot = some k ↔ (s.slot k).binding = some i) ∧
      ∀ k, (s.slot k).mark = .writeDue → (s.slot k).binding ≠ none := Iff.rfl

/-- Windows stand and slots are bound as before, and a slot marked WRITE_DUE was bound. -/
theorem State.bindingLaw_of_same (h : s.bindingLaw) (records : ∀ i, (t.record i).slot = (s.record i).slot)
    (bindings : ∀ k, (t.slot k).binding = (s.slot k).binding)
    (marks : ∀ k, (t.slot k).mark = .writeDue → (s.slot k).binding ≠ none) : t.bindingLaw := by
  obtain ⟨bound, -⟩ := State.bindingLaw_iff.1 h
  refine State.bindingLaw_iff.2 ⟨fun i k => ?_, fun k due => bindings k ▸ marks k due⟩
  rw [bindings k, records i, bound]

/-- A window comes to stand in an unbound slot, which is bound to its record (R134, R150). -/
theorem State.bindingLaw_bind (h : s.bindingLaw) (stood : (s.record i).slot = none)
    (unbound : (s.slot k).binding = none) (stands : (t.record i).slot = some k) (bound : (t.slot k).binding = some i)
    (records : ∀ j, i ≠ j → (t.record j).slot = (s.record j).slot)
    (slots : ∀ j, k ≠ j → t.slot j = s.slot j) : t.bindingLaw := by
  obtain ⟨law, due_bound⟩ := State.bindingLaw_iff.1 h
  refine State.bindingLaw_iff.2 ⟨fun j l => ?_, fun l due => ?_⟩
  · by_cases hj : i = j <;> by_cases hl : k = l
    · subst hj hl
      exact iff_of_true stands bound
    · subst hj
      rw [slots l hl, ← law, stands, stood]
      simp [hl]
    · subst hl
      rw [records j hj, law, unbound, bound]
      simp [hj]
    · rw [records j hj, slots l hl, law]
  · by_cases hl : k = l
    · subst hl
      simp [bound]
    · rw [slots l hl] at due ⊢
      exact due_bound l due

/-- A window that stood stands no more, or is gone, and its slot is unbound and not WRITE_DUE (R19, R136). -/
theorem State.bindingLaw_unbind (h : s.bindingLaw) (stood : (s.record i).slot = some k)
    (stands : (t.record i).slot = none) (unbound : (t.slot k).binding = none) (mark : (t.slot k).mark ≠ .writeDue)
    (records : ∀ j, i ≠ j → (t.record j).slot = (s.record j).slot)
    (slots : ∀ j, k ≠ j → t.slot j = s.slot j) : t.bindingLaw := by
  obtain ⟨law, due_bound⟩ := State.bindingLaw_iff.1 h
  have bound : (s.slot k).binding = some i := (law i k).1 stood
  refine State.bindingLaw_iff.2 ⟨fun j l => ?_, fun l due => ?_⟩
  · by_cases hj : i = j <;> by_cases hl : k = l
    · subst hj hl
      rw [stands, unbound]
      simp
    · subst hj
      rw [slots l hl, ← law, stands, stood]
      simp [hl]
    · subst hl
      rw [records j hj, law, unbound, bound]
      simp [hj]
    · rw [records j hj, slots l hl, law]
  · by_cases hl : k = l
    · subst hl
      exact absurd due mark
    · rw [slots l hl] at due ⊢
      exact due_bound l due

end

/-! ### The laws of the slots and of the engine -/

/-- What the slots, the windows and band control keep whatever the engine does: the binding law, and a due band write
with its value and the values in range (R125, R137, R142). -/
structure State.StoreSound (s : State) : Prop where
  bindings : s.bindingLaw
  due : s.band.writeDue = true → s.band.pending ≠ none
  pending : ∀ v ∈ s.band.pending, v ≤ 64
  cell : ∀ v ∈ s.band.cell.value, v ≤ 64

/-- The same, with the engine in a state its law allows (R127). -/
structure State.SlotSound (s : State) : Prop extends s.StoreSound where
  engine : s.engine.lawful s = true

theorem State.SlotSound.laws {s : State} (h : s.SlotSound) : s.bindingLaw ∧ s.engineLaw :=
  ⟨h.bindings, h.engine, h.due, h.cell⟩

theorem State.safe.slotSound {s : State} (h : s.safe) : s.SlotSound := by
  have pending := (State.safe.tableSound h).pending
  obtain ⟨-, -, -, -, -, -, bindings, ⟨engine, due, cell⟩, -⟩ := h
  exact ⟨⟨bindings, due, pending, cell⟩, engine⟩

/-- The engine's law reads the part mode, the supply, band control and the marks. -/
theorem Engine.lawful_congr {s t : State} (e : Engine) (mode : t.mode = s.mode)
    (supply : t.pins.supply = s.pins.supply) (band : t.band = s.band)
    (marks : ∀ k, (t.slot k).mark = (s.slot k).mark) : e.lawful t = e.lawful s := by
  cases e <;> simp only [Engine.lawful, mode, supply, band, marks]

/-- Of a busy engine it reads the part mode and band control alone. -/
theorem Engine.lawful_busy {s t : State} {e : Engine} (busy : e ≠ .idle) (mode : t.mode = s.mode)
    (band : t.band = s.band) : e.lawful t = e.lawful s := by
  cases e with
  | idle => exact absurd rfl busy
  | _ => simp only [Engine.lawful, mode, band]

/-- An engine IDLE in STARTING, or without supply, leaves nothing that has to be done. -/
theorem Engine.lawful_idle_starting {s : State} (starting : s.mode = .starting) : Engine.idle.lawful s = true := by
  simp [Engine.lawful, starting]

theorem Engine.lawful_idle_off {s : State} (off : s.pins.supply = false) : Engine.idle.lawful s = true := by
  simp [Engine.lawful, off]

namespace State.StoreSound

variable {s t : State}

/-- The laws are kept with the bindings' when band control is as it was. -/
theorem of_bindings (h : s.StoreSound) (bindings : t.bindingLaw) (band : t.band = s.band) : t.StoreSound :=
  ⟨bindings, band ▸ h.due, band ▸ h.pending, band ▸ h.cell⟩

/-- Pieces the laws do not read. -/
theorem of_frame (h : s.StoreSound) (frame : t.table = s.table ∧ t.slots = s.slots ∧ t.band = s.band) :
    t.StoreSound := by
  obtain ⟨table, slots, band⟩ := frame
  have slot : ∀ k, t.slot k = s.slot k := fun k => by rw [State.slot, slots]; rfl
  refine h.of_bindings (State.bindingLaw_of_same h.bindings (fun i => ?_) (fun k => ?_) fun k due => ?_) band
  · rw [State.record, table]
    rfl
  · rw [slot]
  · exact h.bindings.2 k (slot k ▸ due)

theorem setBand (h : s.StoreSound) {b : BandControl} (due : b.writeDue = true → b.pending ≠ none)
    (pending : ∀ v ∈ b.pending, v ≤ 64) (cell : ∀ v ∈ b.cell.value, v ≤ 64) : (s.setBand b).StoreSound :=
  ⟨h.bindings, due, pending, cell⟩

theorem setEngine (h : s.StoreSound) (e : Engine) : (s.setEngine e).StoreSound := h.of_frame (by simp)

/-- A slot is written again with its binding; it is marked WRITE_DUE only while it is bound. -/
theorem setSlot (h : s.StoreSound) (k : SlotIdx) {x : Slot} (binding : x.binding = (s.slot k).binding)
    (mark : x.mark = .writeDue → (s.slot k).binding ≠ none) : (s.setSlot k x).StoreSound := by
  refine h.of_bindings (State.bindingLaw_of_same h.bindings (fun i => by simp) (fun j => ?_) fun j due => ?_) rfl
  · rw [State.setSlot_slot]
    split
    · next same => rw [binding, same]
    · rfl
  · rw [State.setSlot_slot] at due
    split at due
    · next same => exact same ▸ mark due
    · exact h.bindings.2 j due

/-- The cell of a slot takes another content (R123, R129, R130). -/
theorem setContent (h : s.StoreSound) (k : SlotIdx) (content : SlotContent) :
    (s.setSlot k { s.slot k with content := content }).StoreSound :=
  h.setSlot k rfl (h.bindings.2 k)

/-- A window in force is written again where it stood. -/
theorem setWindow (h : s.StoreSound) {i : RecIdx} {w w' : Window} (hw : (s.record i).window = some w)
    (slot : w'.slot = w.slot) : (s.setWindow i w').StoreSound := by
  refine h.of_bindings (State.bindingLaw_of_same h.bindings (fun j => ?_) (fun k => by simp)
    fun k due => h.bindings.2 k (by simpa using due)) (by simp)
  rw [State.setWindow_record]
  split
  · next same => rw [← same, WindowRecord.slot_of_some hw, WindowRecord.slot_held, slot]
  · rfl

end State.StoreSound

/-! ### The engine's choice (R127) -/

/-- A slot marked for work calls for an operation, since a WRITE_DUE slot is bound to a window that stands in it. -/
theorem State.StoreSound.mark_eq_none {s : State} (h : s.StoreSound) {k : SlotIdx} (idle : s.slotOperation k = none) :
    (s.slot k).mark = .none := by
  cases mark : (s.slot k).mark with
  | none => rfl
  | clearDue =>
    rw [State.slotOperation_clearDue mark] at idle
    cases idle
  | writeDue =>
    obtain ⟨i, bound⟩ := Option.ne_none_iff_exists'.1 (h.bindings.2 k mark)
    obtain ⟨w, held, -⟩ := Option.bind_eq_some_iff.1 ((h.bindings.1 i k).2 bound)
    rw [State.slotOperation_writeDue mark bound held] at idle
    cases idle

/-- Once an IDLE engine has chosen, nothing is due or it is busy (R127, R142). -/
theorem State.StoreSound.chooseTarget {s : State} (h : s.StoreSound) (idle : s.engine = .idle)
    (running : s.mode ≠ .starting) : s.chooseTarget.SlotSound := by
  obtain ⟨v, value, chosen⟩ | ⟨k, e, calls, chosen⟩ | ⟨value, unmarked, chosen⟩ := s.chooseTarget_cases
  · obtain ⟨-, pending⟩ := BandControl.writeValue_eq_some.1 value
    rw [chosen]
    exact ⟨(h.setBand (b := { s.band with writeDue := false }) nofun h.pending h.cell).setEngine _,
      decide_eq_true ⟨running, h.pending v pending, fun _ => pending⟩⟩
  · rw [chosen]
    refine ⟨(h.setSlot k (x := { s.slot k with mark := .none }) rfl fun due => by cases due).setEngine e, ?_⟩
    obtain rfl | ⟨image, i, rfl⟩ := State.slotOperation_cases calls
    · exact decide_eq_true running
    · exact decide_eq_true running
  · have quiet : s.band.writeDue = false := Bool.eq_false_iff.2 fun due => by
      obtain ⟨v, pending⟩ := Option.ne_none_iff_exists'.1 (h.due due)
      rw [BandControl.writeValue_eq_some.2 ⟨due, pending⟩] at value
      cases value
    rw [chosen]
    refine ⟨h, ?_⟩
    rw [idle]
    exact decide_eq_true fun _ _ => ⟨quiet, fun k => h.mark_eq_none (unmarked k)⟩

/-- The choice at the end of an event restores the engine's law, when a busy engine keeps it. -/
theorem State.StoreSound.kickEngine {s : State} (h : s.StoreSound)
    (busy : s.engine ≠ .idle → s.engine.lawful s = true) : s.kickEngine.SlotSound := by
  by_cases idle : s.engine = .idle
  · by_cases starting : s.mode = .starting
    · rw [s.kickEngine_starting starting]
      exact ⟨h, idle ▸ Engine.lawful_idle_starting starting⟩
    · rw [s.kickEngine_idle idle starting]
      exact h.chooseTarget idle starting
  · rw [s.kickEngine_busy idle]
    exact ⟨h, busy idle⟩

theorem State.StoreSound.endOperation {s : State} (h : s.StoreSound) : s.endOperation.SlotSound :=
  (h.setEngine .idle).kickEngine fun busy => absurd rfl busy

/-- An event that leaves the engine, band control and the part mode as they were ends with the engine's choice. -/
theorem State.SlotSound.kickEngine {s t : State} (h : s.SlotSound) (store : t.StoreSound)
    (frame : t.engine = s.engine ∧ t.band = s.band ∧ t.mode = s.mode) : t.kickEngine.SlotSound := by
  obtain ⟨engine, band, mode⟩ := frame
  refine store.kickEngine fun busy => ?_
  rw [Engine.lawful_busy busy mode band, engine]
  exact h.engine

end Sys2Proof.Machine
end

section
/-! PROOFS. The operations that leave the slots, the engine and band control alone, and no window standing that did not
stand: what the wait queue, leases, sessions, checks and notices do to the laws of the slots. -/

namespace Sys2Proof.Machine

/-- From one state to a later one every record's window stands where it stood, and bindings, marks, the engine, band
control, the part mode and the supply have not changed. -/
structure State.KeepsSlots (s t : State) : Prop where
  records : ∀ i, (t.record i).slot = (s.record i).slot
  slots : ∀ k, (t.slot k).binding = (s.slot k).binding ∧ (t.slot k).mark = (s.slot k).mark
  engine : t.engine = s.engine
  band : t.band = s.band
  mode : t.mode = s.mode
  supply : t.pins.supply = s.pins.supply

theorem State.StoreSound.of_keepsSlots {s t : State} (h : s.StoreSound) (kept : s.KeepsSlots t) : t.StoreSound :=
  h.of_bindings (State.bindingLaw_of_same h.bindings kept.records (fun k => (kept.slots k).1) fun k due =>
    h.bindings.2 k ((kept.slots k).2 ▸ due)) kept.band

theorem State.SlotSound.of_keepsSlots {s t : State} (h : s.SlotSound) (kept : s.KeepsSlots t) : t.SlotSound := by
  refine ⟨h.toStoreSound.of_keepsSlots kept, ?_⟩
  rw [kept.engine, Engine.lawful_congr _ kept.mode kept.supply kept.band fun k => (kept.slots k).2]
  exact h.engine

namespace State.KeepsSlots

variable {s t u : State}

theorem refl (s : State) : s.KeepsSlots s := ⟨fun _ => rfl, fun _ => ⟨rfl, rfl⟩, rfl, rfl, rfl, rfl⟩

/-- An operation on records alone that leaves every window standing where it stood. -/
theorem of_records (h : s.KeepsSlots u) (records : ∀ i, (t.record i).slot = (u.record i).slot)
    (frame : t.slots = u.slots ∧ t.engine = u.engine ∧ t.band = u.band ∧ t.mode = u.mode ∧
      t.pins.supply = u.pins.supply) : s.KeepsSlots t := by
  obtain ⟨slots, engine, band, mode, supply⟩ := frame
  have slot : ∀ k, t.slot k = u.slot k := fun k => by rw [State.slot, slots]; rfl
  exact ⟨fun i => (records i).trans (h.records i), fun k => slot k ▸ h.slots k, engine.trans h.engine,
    band.trans h.band, mode.trans h.mode, supply.trans h.supply⟩

/-- An operation on other pieces of the state. -/
theorem of_frame (h : s.KeepsSlots u) (frame : t.table = u.table ∧ t.slots = u.slots ∧ t.engine = u.engine ∧
    t.band = u.band ∧ t.mode = u.mode ∧ t.pins.supply = u.pins.supply) : s.KeepsSlots t :=
  h.of_records (fun i => by rw [State.record, frame.1]; rfl) frame.2

/-- A window in force is written again where it stood. -/
theorem setWindow (h : s.KeepsSlots u) {i : RecIdx} {w w' : Window} (hw : (u.record i).window = some w)
    (slot : w'.slot = w.slot) : s.KeepsSlots (u.setWindow i w') := by
  refine h.of_records (fun j => ?_) (by simp)
  rw [State.setWindow_record]
  split
  · next same => rw [← same, WindowRecord.slot_of_some hw, WindowRecord.slot_held, slot]
  · rfl

/-- A SESSION or TIMED window is issued into a FREE record (R7). -/
theorem issue (h : s.KeepsSlots u) {i : RecIdx} {w : Window} (free : (u.record i).window = none)
    (leased : w.slot = none) : s.KeepsSlots (u.issue i w) := by
  refine h.of_records (fun j => ?_) (by simp)
  rw [State.issue_record]
  split
  · next same => rw [← same, WindowRecord.slot_of_none free, WindowRecord.slot_held, leased]
  · rfl

/-- A record is retired whose window stands in no slot (R19). -/
theorem retire (h : s.KeepsSlots u) (cause : RetireCause) {i : RecIdx} (leased : (s.record i).slot = none) :
    s.KeepsSlots (u.retire cause i) := by
  cases hw : (u.record i).window with
  | none => rwa [u.retire_free cause i hw]
  | some w =>
    have stood : w.slot = none := by rw [← WindowRecord.slot_of_some hw, h.records i, leased]
    refine h.of_records (fun j => ?_) ⟨u.retire_slots cause hw (Window.slot_eq_none.1 stood), by simp⟩
    rw [u.retire_record cause i w hw]
    split
    · next same => rw [← same, WindowRecord.slot_of_some hw, WindowRecord.slot_free, stood]
    · rfl

theorem raise (h : s.KeepsSlots u) (m : Master) (f : Flag) : s.KeepsSlots (u.raise m f) := h.of_frame (by simp)

theorem setWatch (h : s.KeepsSlots u) (k : WatchIdx) (w : WatchRecord) : s.KeepsSlots (u.setWatch k w) :=
  h.of_frame (by simp)

theorem setNotice (h : s.KeepsSlots u) (m : Master) (n : Notice) : s.KeepsSlots (u.setNotice m n) :=
  h.of_frame (by simp)

theorem setSessionState (h : s.KeepsSlots u) (m : Master) (x : SessionState) : s.KeepsSlots (u.setSessionState m x) :=
  h.of_frame (by simp)

theorem removeWaiters (h : s.KeepsSlots u) (cause : Option FailCause) (p : Waiter → Bool) :
    s.KeepsSlots (u.removeWaiters cause p) :=
  h.of_frame (by simp)

/-- What the scan grants is a SESSION or TIMED window (R54). -/
theorem grantScan (h : s.KeepsSlots u) : s.KeepsSlots u.grantScan := by
  refine u.grantScan_induction h (fun v q hv => hv.of_frame (by simp)) (fun v c e _ hv => hv.of_frame (by simp))
    fun v i e _ hv free => (hv.issue free ?_).raise _ _
  rw [State.grantedWindow]
  cases e.length <;> rfl

/-- A session end retires no standing window (R72). -/
theorem endSession (m : Master) (cause : RetireCause) (fail : Option FailCause) (after : SessionState) :
    s.KeepsSlots (s.endSession m cause fail after) := by
  have retired : s.KeepsSlots (s.retireAll cause (s.recordsWhere fun _ w => endsWith m w)) := by
    refine List.foldlRecOn _ _ (refl s) fun u hu i hi => hu.retire cause ?_
    obtain ⟨w, hw, ends⟩ := (s.mem_recordsWhere _ i).1 hi
    rw [WindowRecord.slot_of_some hw, Window.slot_eq_none]
    exact ((endsWith_iff m w).1 ends).2
  have vacated := retired.removeWaiters fail fun e => decide (e.master = m)
  exact ((vacated.of_frame (t := State.freeWatches _ m) (by simp)).setSessionState m after).grantScan

/-- A check sets the touched flag of a window, and writes notices and watches (R105, R106, R112). -/
theorem applyVerdict (h : s.KeepsSlots u) (a : Access) (v : Verdict) : s.KeepsSlots (u.applyVerdict a v) := by
  have touched : s.KeepsSlots (u.touch v) := by
    unfold State.touch
    split
    · next i =>
      cases hw : (u.record i).window with
      | none => exact h
      | some w => exact h.setWindow (w' := { w with touched := true }) hw rfl
    · exact h
    · exact h
  cases hm : checkMaster a.cmas with
  | none => rwa [State.applyVerdict_noMaster _ a _ hm]
  | some m =>
    rw [State.applyVerdict_master _ a _ hm]
    exact touched.of_frame (by simp)

/-! ### Requests -/

theorem openAnswer (m : Master) (period : Nat) : s.KeepsSlots (openAnswer m period s).state := by
  have same := refl s
  unfold Machine.openAnswer
  split
  · exact same
  · split
    · exact same
    · exact same.setSessionState m _
    · exact same.setSessionState m _

theorem closeAnswer (m : Master) : s.KeepsSlots (closeAnswer m s).state := by
  unfold Machine.closeAnswer
  split
  · exact endSession m _ _ _
  · exact (refl s).setSessionState m _
  · exact refl s

theorem evictAnswer (target : Word) : s.KeepsSlots (evictAnswer target s).state := by
  unfold Machine.evictAnswer
  split
  · exact refl s
  · unfold evictTarget
    split
    · exact endSession _ _ _ _
    · exact (refl s).setSessionState _ _
    · exact refl s

/-- A claim is granted a SESSION or TIMED window, queued or refused (R29 to R31). -/
theorem claimAnswer (m : Master) (c : ClaimOperands) : s.KeepsSlots (claimAnswer m c s).state := by
  have same := refl s
  refine State.gated_keeps same fun _ => State.gated_keeps same fun _ => ?_
  split
  · next i granted =>
    obtain ⟨-, free, -⟩ := (s.claimGrant_eq_some c i).1 granted
    exact same.issue free (Window.slot_eq_none.2 (s.claimedWindow_isStanding m c))
  · unfold State.claimWaits
    split
    · split
      · exact same.of_frame (by simp)
      · exact same
    · split <;> exact same

/-- Only a TIMED window is renewed, and it stays one (R34). -/
theorem renewAnswer (m : Master) (h : Word) (ticks : Nat) : s.KeepsSlots (renewAnswer m h ticks s).state := by
  have same := refl s
  unfold Machine.renewAnswer
  split
  · exact same
  · refine State.withHandle_keeps same fun i w hw => ?_
    unfold renewWindow
    split
    · exact same
    · split
      · exact same
      · split
        · next l timed => exact same.setWindow hw (by simp [Window.slot, timed])
        · exact same
        · exact same

/-- RELEASE of a standing window is refused (R36). -/
theorem releaseWindow (m : Master) {i : RecIdx} {w : Window} (hw : (s.record i).window = some w) :
    s.KeepsSlots (releaseWindow m s i w).state := by
  have same := refl s
  unfold Machine.releaseWindow
  split
  · exact same
  · split
    · exact same
    · next leased =>
      refine (same.retire _ ?_).grantScan
      rw [WindowRecord.slot_of_some hw, Window.slot_eq_none]
      exact Bool.eq_false_iff.2 leased

theorem queryWindow {i : RecIdx} {w : Window} (hw : (s.record i).window = some w) :
    s.KeepsSlots (queryWindow s i w).state :=
  (refl s).setWindow (w' := { w with touched := false }) hw rfl

theorem listAnswer (m : Master) (start target : Word) : s.KeepsSlots (listAnswer m start target s).state := by
  have same := refl s
  unfold Machine.listAnswer
  split
  · exact same
  · split
    · exact same
    · split <;> exact same

theorem cancelAnswer (m : Master) (t : Word) : s.KeepsSlots (cancelAnswer m t s).state := by
  have same := refl s
  unfold Machine.cancelAnswer
  split
  · exact (same.removeWaiters _ _).grantScan
  · exact same
  · exact same
  · exact same

theorem ticketAnswer (m : Master) (t : Word) : s.KeepsSlots (ticketAnswer m t s).state := by
  unfold Machine.ticketAnswer
  split <;> exact refl s

theorem watchSetAnswer (m : Master) (base size : Nat) (kinds : WatchKinds) :
    s.KeepsSlots (watchSetAnswer m base size kinds s).state := by
  have same := refl s
  unfold Machine.watchSetAnswer
  split
  · exact same
  · split
    · exact same
    · split
      · exact same
      · exact same.setWatch _ _

theorem quotaAnswer (target : Word) (quota allowance : Nat) :
    s.KeepsSlots (quotaAnswer target quota allowance s).state := by
  have same := refl s
  unfold Machine.quotaAnswer
  split
  · exact same
  · split
    · exact same
    · split
      · exact same
      · exact same.of_frame (by simp [State.ok])

/-! ### Events -/

theorem strobe (a : Access) : s.KeepsSlots (s.strobe a) := by
  have seen : s.KeepsSlots (s.setPins { s.pins with cstb := true }) := (refl s).of_frame (by simp)
  simp only [State.strobe]
  split
  · exact seen
  · exact (seen.applyVerdict a (s.verdict a)).of_frame (by simp)

theorem releaseStrobe : s.KeepsSlots s.releaseStrobe := by
  simp only [State.releaseStrobe]
  split <;> exact (refl s).of_frame (by simp)

theorem lapse (m : Master) : s.KeepsSlots (s.lapse m) := by
  unfold State.lapse
  split
  · exact (endSession m .lapsed none .lapsed).of_frame (by simp)
  · exact refl s

/-- Only a TIMED window has a lease to run out (R78). -/
theorem expireLease (i : RecIdx) : s.KeepsSlots (s.expireLease i) := by
  unfold State.expireLease
  split
  · next due =>
    refine ((refl s).retire _ ?_).grantScan
    simp only [Option.any_eq_true] at due
    obtain ⟨w, hw, due⟩ := due
    unfold State.leaseDue at due
    split at due
    · next l timed => simp [WindowRecord.slot_of_some hw, Window.slot, timed]
    · cases due
    · cases due
  · exact refl s

/-- Only a TIMED window is warned, and it stays one (R79). -/
theorem warnLease (i : RecIdx) : s.KeepsSlots (s.warnLease i) := by
  unfold State.warnLease
  split
  · exact refl s
  · next w hw =>
    split
    · refine ((refl s).setWindow hw ?_).raise _ _
      unfold Window.warn
      split
      · next l timed => simp [Window.slot, timed]
      · rfl
      · rfl
    · exact refl s

theorem expireWait (m : Master) (t : Word) : s.KeepsSlots (s.expireWait m t) := by
  unfold State.expireWait
  split
  · exact ((refl s).removeWaiters _ _).grantScan
  · exact refl s

/-- The image in a slot's cell is not what the slot is bound to or marked with (R123). -/
theorem loseRetention (k : SlotIdx) (image : Image) : s.KeepsSlots (s.loseRetention k image) := by
  refine ⟨fun i => by simp, fun j => ?_, by simp, by simp, by simp, by simp⟩
  unfold State.loseRetention
  split
  · rw [State.setSlot_slot]
    split
    · next same => rw [same]; exact ⟨rfl, rfl⟩
    · exact ⟨rfl, rfl⟩
  · exact ⟨rfl, rfl⟩
  · exact ⟨rfl, rfl⟩

end State.KeepsSlots

end Sys2Proof.Machine
end

section
/-! PROOFS. The rules of the operations that bind, mark or release a slot, of starts and of every request for the laws of
the slots (R19, R39, R89, R134, R136, R140, R147, R155). -/

namespace Sys2Proof.Machine

/-! ### Slots released and marked -/

section
variable (x : Slot) (work : Option SlotWork)

/-- A released slot is unbound, and unmarked or marked CLEAR_DUE (R19). -/
theorem Slot.release_unbound : (x.release work).binding = none ∧ (x.release work).mark ≠ .writeDue := by
  unfold Slot.release
  split
  · next untouched => simp [((x.untouched_iff work).1 untouched).2.1]
  · exact ⟨rfl, nofun⟩

/-- So is a slot released by UNSTAND (R136). -/
theorem Slot.unstand_unbound : (x.unstand work).binding = none ∧ (x.unstand work).mark ≠ .writeDue := by
  unfold Slot.unstand
  split <;> exact ⟨rfl, nofun⟩

theorem Slot.markRewrite_binding : (x.markRewrite work).binding = x.binding := by
  unfold Slot.markRewrite
  split
  · rfl
  · split <;> rfl

/-- A revocation or a PURGE leaves a slot as it is or marks it CLEAR_DUE (R89, R155). -/
theorem Slot.markRevoked_cases : x.markRevoked work = x ∨ x.markRevoked work = { x with mark := .clearDue } := by
  unfold Slot.markRevoked
  split
  · exact .inl rfl
  · exact .inr rfl

theorem Slot.markPurged_cases : x.markPurged work = x ∨ x.markPurged work = { x with mark := .clearDue } := by
  unfold Slot.markPurged
  split
  · exact .inl rfl
  · exact .inr rfl

end

/-! ### Free slots (R123, R134) -/

theorem Slot.isFree_iff (x : Slot) (work : Option SlotWork) :
    x.isFree work = true ↔ x = ⟨.blank, none, .none⟩ ∧ work = none := by
  rw [Slot.isFree, Bool.and_eq_true, x.untouched_iff, Option.isNone_iff_eq_none]
  cases x
  simp only [Slot.mk.injEq]
  tauto

theorem State.findFreeSlot_eq_some (s : State) (k : SlotIdx) : s.findFreeSlot = some k ↔
    (s.slot k = ⟨.blank, none, .none⟩ ∧ s.engine.workOn k = none) ∧
      ∀ j, j < k → ¬ (s.slot j = ⟨.blank, none, .none⟩ ∧ s.engine.workOn j = none) := by
  simp only [State.findFreeSlot, find?_finRange_eq_some, ← Slot.isFree_iff, Bool.not_eq_true]

theorem State.findFreeSlot_eq_none (s : State) : s.findFreeSlot = none ↔
    ∀ k, ¬ (s.slot k = ⟨.blank, none, .none⟩ ∧ s.engine.workOn k = none) := by
  simp only [State.findFreeSlot, find?_finRange_eq_none, ← Slot.isFree_iff, Bool.not_eq_true]

namespace State.StoreSound

variable {s : State}

/-! ### The shared operations -/

theorem grantScan (h : s.StoreSound) : s.grantScan.StoreSound := h.of_keepsSlots (State.KeepsSlots.refl s).grantScan

theorem removeWaiters (h : s.StoreSound) (cause : Option FailCause) (p : Waiter → Bool) :
    (s.removeWaiters cause p).StoreSound :=
  h.of_frame (by simp)

/-- A standing window that is retired gives up its slot (R19). -/
theorem retire (h : s.StoreSound) (cause : RetireCause) (i : RecIdx) : (s.retire cause i).StoreSound := by
  cases stood : (s.record i).slot with
  | none => exact h.of_keepsSlots ((State.KeepsSlots.refl s).retire cause stood)
  | some k =>
    obtain ⟨w, hw, slot⟩ := Option.bind_eq_some_iff.1 stood
    have released := s.retire_slot cause hw (Window.slot_eq_some.1 slot)
    have unbound := (s.slot k).release_unbound (s.engine.workOn k)
    rw [← (released k).trans (if_pos rfl)] at unbound
    refine h.of_bindings (State.bindingLaw_unbind h.bindings stood ?_ unbound.1 unbound.2 (fun j hj => ?_)
      fun j hj => ?_) (by simp)
    · rw [s.retire_record cause i w hw, if_pos rfl, WindowRecord.slot_free]
    · rw [s.retire_record_ne cause i j hj]
    · rw [released j, if_neg hj]

theorem retireAll (h : s.StoreSound) (cause : RetireCause) (l : List RecIdx) : (s.retireAll cause l).StoreSound :=
  List.foldlRecOn _ _ h fun _ ht i _ => ht.retire cause i

theorem drainWindow (h : s.StoreSound) (cause : DrainCause) (grace : Nat) (i : RecIdx) :
    (s.drainWindow cause grace i).StoreSound := by
  unfold State.drainWindow
  split
  · exact h
  · next w hw =>
    split
    · exact h.retire _ i
    · exact (h.setWindow (w' := { w with drain := some (s.drainOf w cause grace) }) hw rfl).of_frame (by simp)

theorem widen (h : s.StoreSound) (value grace : Nat) : (s.widen value grace).StoreSound := by
  have drained : (s.bandDrained value grace).StoreSound :=
    List.foldlRecOn _ _ h fun _ ht i _ => ht.drainWindow .banded grace i
  have removed : (s.bandRemoved value grace).StoreSound := drained.removeWaiters _ _
  obtain scanned | ⟨left, -⟩ := s.widen_cases value grace
  · exact scanned ▸ removed.grantScan
  · exact left ▸ removed

/-- A mode change marks the slot its window stands in, which is bound to the window's record (R39). -/
theorem changeMode (h : s.StoreSound) {i : RecIdx} {w : Window} (hw : (s.record i).window = some w)
    (mode : AccessMode) : (s.changeMode i w mode).StoreSound := by
  have changed := h.setWindow (w' := { w with mode := mode }) hw rfl
  cases slot : w.slot with
  | none => rwa [State.changeMode, State.markRewriteOf_not_standing _ (Window.slot_eq_none.1 slot)]
  | some k =>
    have bound : (s.slot k).binding = some i :=
      ((State.bindingLaw_iff.1 h.bindings).1 i k).1 ((WindowRecord.slot_of_some hw).trans slot)
    rw [State.changeMode, State.markRewriteOf_standing _ (Window.slot_eq_some.1 slot)]
    exact changed.setSlot k (Slot.markRewrite_binding _ _) fun _ => by simp [bound]

/-- A slot is left as it is or marked CLEAR_DUE. -/
theorem markClear (h : s.StoreSound) (k : SlotIdx) {x : Slot}
    (marked : x = s.slot k ∨ x = { s.slot k with mark := .clearDue }) : (s.setSlot k x).StoreSound := by
  obtain rfl | rfl := marked
  · exact h.setSlot k rfl (h.bindings.2 k)
  · exact h.setSlot k rfl nofun

theorem markRevokedOf (h : s.StoreSound) (w : Window) : (s.markRevokedOf w).StoreSound := by
  unfold State.markRevokedOf
  split
  · exact h.markClear _ (Slot.markRevoked_cases _ _)
  · exact h
  · exact h

/-- A window that did not stand is bound to a free slot (R134). -/
theorem standWindow (h : s.StoreSound) {i : RecIdx} {w : Window} {k : SlotIdx} (hw : (s.record i).window = some w)
    (leased : w.isStanding = false) (unbound : (s.slot k).binding = none) : (s.standWindow i w k).StoreSound := by
  have stood : (s.record i).slot = none := (WindowRecord.slot_of_some hw).trans (Window.slot_eq_none.2 leased)
  refine h.of_bindings (State.bindingLaw_bind (i := i) (k := k) h.bindings stood unbound ?_ ?_ (fun j hj => ?_)
    fun j hj => ?_) (by simp)
  · simp [State.standWindow, State.setWindow_record, Window.slot]
  · simp [State.standWindow]
  · simp [State.standWindow, State.setWindow_record, hj]
  · simp [State.standWindow, State.setSlot_slot, hj]

/-- A standing window is SESSION again, and its slot is unbound (R136). -/
theorem unstandWindow (h : s.StoreSound) {i : RecIdx} {w : Window} {k : SlotIdx} (hw : (s.record i).window = some w)
    (standing : w.kind = .standing k) : (s.unstandWindow i w k).StoreSound := by
  have stood : (s.record i).slot = some k := (WindowRecord.slot_of_some hw).trans (Window.slot_eq_some.2 standing)
  have slot : ∀ j, (s.unstandWindow i w k).slot j =
      if k = j then (s.slot k).unstand (s.engine.workOn k) else s.slot j := fun j => by
    simp [State.unstandWindow, State.changeSlot_slot]
  have unbound := (s.slot k).unstand_unbound (s.engine.workOn k)
  rw [← (slot k).trans (if_pos rfl)] at unbound
  refine h.of_bindings (State.bindingLaw_unbind h.bindings stood ?_ unbound.1 unbound.2 (fun j hj => ?_)
    fun j hj => ?_) (by simp)
  · simp [State.unstandWindow, State.setWindow_record, Window.slot]
  · simp [State.unstandWindow, State.setWindow_record, hj]
  · rw [slot j, if_neg hj]

/-! ### Starts (R132, R147, R149) -/

theorem breakPhase (h : s.StoreSound) : s.breakPhase.StoreSound := by
  have damaged : (s.setBand { s.band with cell := .damaged }).StoreSound := h.setBand h.due h.pending nofun
  unfold State.breakPhase
  split
  · exact h.setContent _ _
  · exact h.setContent _ _
  · exact h.setContent _ _
  · exact damaged
  · exact damaged
  · exact h
  · exact h

/-- A start leaves no window, no binding, no mark and nothing pending. -/
theorem beginStart (h : s.StoreSound) (cause : StartCause) (hold : Bool) : (s.beginStart cause hold).StoreSound where
  bindings := State.bindingLaw_iff.2 ⟨fun i k => by simp [Slot.atStart], fun k due => by simp [Slot.atStart] at due⟩
  due := nofun
  pending := nofun
  cell := h.breakPhase.cell

/-- The engine begins the start-up read in STARTING alone. -/
theorem beginRead (h : s.StoreSound) (starting : s.mode = .starting) : s.beginRead.SlotSound :=
  ⟨h.setEngine _, decide_eq_true starting⟩

theorem softStart (h : s.StoreSound) : s.softStart.SlotSound := (h.beginStart .soft false).beginRead rfl

end State.StoreSound

/-! ### Requests -/

namespace State.SlotSound

variable {s : State}

theorem downgradeWindow (h : s.SlotSound) (m : Master) {i : RecIdx} {w : Window}
    (hw : (s.record i).window = some w) : (downgradeWindow m s i w).state.SlotSound := by
  unfold Machine.downgradeWindow
  split
  · exact h
  · split
    · exact h
    · exact h.kickEngine (h.changeMode hw .read).grantScan (by simp)

theorem upgradeWindow (h : s.SlotSound) (m : Master) {i : RecIdx} {w : Window}
    (hw : (s.record i).window = some w) : (upgradeWindow m s i w).state.SlotSound := by
  unfold Machine.upgradeWindow
  split
  · exact h
  · split
    · exact h
    · split
      · exact h
      · split
        · exact h
        · exact h.kickEngine (h.changeMode hw .write) (by simp)

theorem standAnswer (h : s.SlotSound) (m : Master) {i : RecIdx} {w : Window} (hw : (s.record i).window = some w) :
    (standAnswer m s i w).state.SlotSound := by
  unfold Machine.standAnswer
  split
  · exact h
  · split
    · exact h
    · split
      · exact h
      · next leased =>
        split
        · exact h
        · split
          · exact h
          · next k found =>
            obtain ⟨⟨free, -⟩, -⟩ := (s.findFreeSlot_eq_some k).1 found
            have unbound : (s.slot k).binding = none := by rw [free]
            exact h.kickEngine (h.standWindow hw (Bool.eq_false_iff.2 leased) unbound) (by simp)

theorem unstandAnswer (h : s.SlotSound) (m : Master) {i : RecIdx} {w : Window} (hw : (s.record i).window = some w) :
    (unstandAnswer m s i w).state.SlotSound := by
  unfold Machine.unstandAnswer
  split
  · exact h
  · split
    · exact h
    · exact h
    · next k standing =>
      split
      · exact h
      · exact h.kickEngine (h.unstandWindow hw standing) (by simp)

theorem revokeAnswer (h : s.SlotSound) (x : Word) (grace : Nat) : (revokeAnswer x grace s).state.SlotSound := by
  unfold Machine.revokeAnswer
  split
  · exact h
  · refine State.withHandle_keeps h fun i w _ => ?_
    unfold revokeWindow
    split
    · exact h.kickEngine (h.drainWindow _ _ i).grantScan (by simp)
    · exact h.kickEngine ((h.drainWindow _ _ i).markRevokedOf w) (by simp)

/-- A new pending band is a value in range, and is due: the engine's choice finds it, or a busy engine is left to it
(R139, R142). -/
theorem bandAnswer (h : s.SlotSound) (value grace : Nat) : (bandAnswer value grace s).state.SlotSound := by
  unfold Machine.bandAnswer Config.maxBand
  split
  · exact h
  · next range =>
    have pending : (s.setPendingBand value).StoreSound :=
      h.setBand (b := { s.band with pending := some value, writeDue := true }) (fun _ => nofun)
        (fun v hv => Option.some.inj hv ▸ (by omega)) h.cell
    have busy : s.engine ≠ .idle → s.engine.lawful (s.setPendingBand value) = true := fun busy => by
      have lawful := h.engine
      cases engine : s.engine with
      | idle => exact absurd engine busy
      | erasingBand v | programmingBand v =>
        rw [engine] at lawful
        obtain ⟨running, inRange, -⟩ := of_decide_eq_true lawful
        exact decide_eq_true ⟨running, inRange, nofun⟩
      | _ => rwa [engine] at lawful
    unfold bandValueAnswer
    split
    · refine (pending.widen value grace).kickEngine fun active => ?_
      rw [State.widen_engine] at active ⊢
      rw [Engine.lawful_busy active (State.widen_mode _ _ _) (State.widen_band _ _ _)]
      exact busy active
    · split
      · exact pending.kickEngine busy
      · split <;> exact h

/-- The window bound to the slot is retired, and the slot is left free or marked CLEAR_DUE (R155). -/
theorem purgeAnswer (h : s.SlotSound) (slot : Word) : (purgeAnswer slot s).state.SlotSound := by
  unfold Machine.purgeAnswer
  split
  · exact h
  · next k _ =>
    split
    · have purged : (s.purgeWindow (s.slot k).binding).StoreSound := by
        cases (s.slot k).binding with
        | none => exact h.toStoreSound
        | some i => exact (h.retire _ i).grantScan
      exact h.kickEngine (purged.markClear k (Slot.markPurged_cases _ _)) (by simp)
    · exact h

theorem serve (h : s.SlotSound) {m : Master} {code : Byte} {ok : Bool} {body : State → Answer}
    (hb : ∀ u : State, u.SlotSound → (body u).state.SlotSound) : (serve m code ok body s).SlotSound :=
  serve_keeps (h.of_keepsSlots ((State.KeepsSlots.refl s).of_frame (by simp))) (hb _) fun u _ hu =>
    hu.of_keepsSlots ((State.KeepsSlots.refl u).of_frame (by simp))

/-! ### Every request -/

theorem takeRequest (h : s.SlotSound) (i : Instr) : (takeRequest i s).SlotSound := by
  cases i with dsimp only [Machine.takeRequest]
  | nop m => exact h.serve fun u hu => State.gated_keeps hu fun _ => hu
  | status m => exact h.serve fun u hu => State.gated_keeps hu fun _ => hu
  | keepalive m => exact h.serve fun u hu => State.gated_keeps hu fun _ => hu
  | noticeRead m => exact h.serve fun u hu => State.gated_keeps hu fun _ => hu
  | openSession m period =>
    exact h.serve fun u hu => State.gated_keeps hu fun _ => hu.of_keepsSlots (.openAnswer m _)
  | close m => exact h.serve fun u hu => State.gated_keeps hu fun _ => hu.of_keepsSlots (.closeAnswer m)
  | claim m base size options lease limit =>
    exact h.serve fun u hu => State.gated_keeps hu fun _ => hu.of_keepsSlots (.claimAnswer m _)
  | renew m handle ticks =>
    exact h.serve fun u hu => State.gated_keeps hu fun _ => hu.of_keepsSlots (.renewAnswer m _ _)
  | release m handle =>
    exact h.serve fun u hu => State.gated_keeps hu fun _ =>
      State.withHandle_keeps hu fun _ _ hw => hu.of_keepsSlots (.releaseWindow m hw)
  | downgrade m handle =>
    exact h.serve fun u hu => State.gated_keeps hu fun _ =>
      State.withHandle_keeps hu fun _ _ hw => hu.downgradeWindow m hw
  | upgrade m handle =>
    exact h.serve fun u hu => State.gated_keeps hu fun _ =>
      State.withHandle_keeps hu fun _ _ hw => hu.upgradeWindow m hw
  | query m handle =>
    exact h.serve fun u hu => State.gated_keeps hu fun _ =>
      State.withHandle_keeps hu fun _ _ hw => hu.of_keepsSlots (.queryWindow hw)
  | list m start target =>
    exact h.serve fun u hu => State.gated_keeps hu fun _ => hu.of_keepsSlots (.listAnswer m _ _)
  | cancel m t => exact h.serve fun u hu => State.gated_keeps hu fun _ => hu.of_keepsSlots (.cancelAnswer m t)
  | ticket m t => exact h.serve fun u hu => State.gated_keeps hu fun _ => hu.of_keepsSlots (.ticketAnswer m t)
  | stand m handle =>
    exact h.serve fun u hu => State.gated_keeps hu fun _ => State.withHandle_keeps hu fun _ _ hw => hu.standAnswer m hw
  | unstand m handle =>
    exact h.serve fun u hu => State.gated_keeps hu fun _ =>
      State.withHandle_keeps hu fun _ _ hw => hu.unstandAnswer m hw
  | watchSet m base size kinds =>
    exact h.serve fun u hu => State.gated_keeps hu fun _ => hu.of_keepsSlots (.watchSetAnswer m _ _ _)
  | watchClear m id =>
    exact h.serve fun u hu => State.gated_keeps hu fun _ =>
      State.withWatch_keeps hu fun k _ _ _ => hu.of_keepsSlots ((State.KeepsSlots.refl u).setWatch k _)
  | watchRead m id =>
    exact h.serve fun u hu => State.gated_keeps hu fun _ =>
      State.withWatch_keeps hu fun k _ _ _ => hu.of_keepsSlots ((State.KeepsSlots.refl u).setWatch k _)
  | noticeAck m mask =>
    exact h.serve fun u hu => State.gated_keeps hu fun _ =>
      hu.of_keepsSlots ((State.KeepsSlots.refl u).setNotice m _)
  | noticeEnable m mask line =>
    exact h.serve fun u hu => State.gated_keeps hu fun _ =>
      hu.of_keepsSlots ((State.KeepsSlots.refl u).setNotice m _)
  | quota m target quota allowance =>
    exact h.serve fun u hu => State.gated_keeps hu fun _ => hu.of_keepsSlots (.quotaAnswer _ _ _)
  | revoke m handle grace => exact h.serve fun u hu => State.gated_keeps hu fun _ => hu.revokeAnswer _ _
  | evict m target => exact h.serve fun u hu => State.gated_keeps hu fun _ => hu.of_keepsSlots (.evictAnswer _)
  | restart m =>
    unfold takeRestart
    split
    · exact h.serve fun u hu => State.gated_keeps hu fun _ => hu
    · exact State.StoreSound.softStart (h.of_frame (by simp))
  | band m value grace => exact h.serve fun u hu => State.gated_keeps hu fun _ => hu.bandAnswer _ _
  | purge m slot => exact h.serve fun u hu => State.gated_keeps hu fun _ => hu.purgeAnswer _
  | _ => exact h

end State.SlotSound

end Sys2Proof.Machine
end

section
/-! PROOFS. The events, and that every step keeps the laws of the slots and of the store engine. -/

namespace Sys2Proof.Machine

namespace State.SlotSound

variable {s : State}

/-! ### Links (R158, R161) -/

theorem setLink (h : s.SlotSound) (m : Master) (l : Link) : (s.setLink m l).SlotSound :=
  h.of_keepsSlots ((State.KeepsSlots.refl s).of_frame (by simp))

theorem placeReply (h : s.SlotSound) (m : Master) (r : Reply) : (s.placeReply m r).SlotSound :=
  h.of_keepsSlots ((State.KeepsSlots.refl s).of_frame (by simp))

theorem renewSession (h : s.SlotSound) (m : Master) : (s.renewSession m).SlotSound :=
  h.of_keepsSlots ((State.KeepsSlots.refl s).of_frame (by simp))

theorem takeFrame (h : s.SlotSound) (m : Master) : (s.takeFrame m).SlotSound := by
  simp only [State.takeFrame]
  split
  · exact h.placeReply m _
  · exact (h.renewSession m).placeReply m _
  · exact (h.renewSession m).placeReply m _
  · exact h.takeRequest _

theorem riseLsel (h : s.SlotSound) (m : Master) (ldi : Clocked) : (s.riseLsel m ldi).SlotSound := by
  unfold State.riseLsel
  split
  · simp only [State.endFrame]
    split
    · exact h.setLink m _
    · split
      · exact h.setLink m _
      · exact (h.setLink m _).takeFrame m
  · exact h.setLink m _

theorem fallLsel (h : s.SlotSound) (m : Master) : (s.fallLsel m).SlotSound := by
  unfold State.fallLsel
  split <;> exact h.setLink m _

/-! ### The end of a drain and the phases of the store (R91, R129, R130, R142, R143) -/

theorem endDrain (h : s.SlotSound) (i : RecIdx) : (s.endDrain i).SlotSound := by
  unfold State.endDrain
  split
  · exact h
  · split
    · exact h.kickEngine (h.retire _ i).grantScan (by simp)
    · exact h

/-- The part has left STARTING when the engine writes or clears a slot, so it may go on to the program (R129). -/
theorem slotErased (h : s.SlotSound) : s.slotErased.SlotSound := by
  unfold State.slotErased
  split
  · next k image i erasing =>
    refine ⟨(h.setContent k .blank).setEngine _, ?_⟩
    have lawful := h.engine
    rwa [erasing] at lawful
  all_goals exact h

theorem slotProgrammed (h : s.SlotSound) : s.slotProgrammed.SlotSound := by
  unfold State.slotProgrammed
  split
  · next k image i _ =>
    have noticed : ((s.setSlot k { s.slot k with content := .valid image }).noticeStored k i).StoreSound :=
      (h.setContent k (.valid image)).of_frame (by simp)
    exact noticed.endOperation
  all_goals exact h

theorem slotCleared (h : s.SlotSound) : s.slotCleared.SlotSound := by
  unfold State.slotCleared
  split
  · exact (h.setContent _ .blank).endOperation
  all_goals exact h

/-- The value written stays the pending band unless a newer one is due (R142). -/
theorem bandErased (h : s.SlotSound) : s.bandErased.SlotSound := by
  unfold State.bandErased
  split
  · next value erasing =>
    refine ⟨h.setEngine _, ?_⟩
    have lawful := h.engine
    rwa [erasing] at lawful
  all_goals exact h

/-- The cell holds the value written, and with no newer one due the commit leaves nothing pending (R142, R143). -/
theorem bandProgrammed (h : s.SlotSound) : s.bandProgrammed.SlotSound := by
  unfold State.bandProgrammed
  split
  · next value programming =>
    have lawful := h.engine
    rw [programming] at lawful
    obtain ⟨-, range, -⟩ := of_decide_eq_true lawful
    have cell : ∀ v ∈ (BandCell.valid value).value, v ≤ 64 := fun v hv => Option.some.inj hv ▸ range
    have written : (s.setBand { s.band with cell := .valid value }).StoreSound := h.setBand h.due h.pending cell
    simp only []
    split
    · exact written.endOperation
    · next current =>
      have committed := written.setBand
        (b := { s.band with cell := .valid value, committed := value, pending := none })
        (fun due => absurd due current) nofun cell
      exact (committed.retireAll _ _).grantScan.endOperation
  all_goals exact h

/-! ### Starts and the supply (R132, R147) -/

theorem setPins (h : s.SlotSound) {p : Pins} (supply : p.supply = s.pins.supply) : (s.setPins p).SlotSound :=
  h.of_keepsSlots ((State.KeepsSlots.refl s).of_frame (by simp [supply]))

theorem powerStart (h : s.SlotSound) (p : Pins) : ((s.beginStart .power true).setPins p).SlotSound :=
  ⟨(h.beginStart .power true).of_frame (by simp), Engine.lawful_idle_starting rfl⟩

theorem assertReset (h : s.SlotSound) : s.assertReset.SlotSound := by
  have seen : (s.setPins { s.pins with reset := true }).SlotSound := h.setPins rfl
  simp only [State.assertReset]
  split
  · exact ⟨seen.beginStart .line false, Engine.lawful_idle_starting rfl⟩
  · exact seen

theorem releaseReset (h : s.SlotSound) : s.releaseReset.SlotSound := by
  have seen : (s.setPins { s.pins with reset := false }).SlotSound := h.setPins rfl
  simp only [State.releaseReset]
  split
  · next released =>
    obtain ⟨-, -, starting, -⟩ := released
    exact seen.beginRead starting
  · exact seen

/-- The power-on hold runs in STARTING alone (R147). -/
theorem endHold (h : s.SlotSound) (time : s.TimeSound) : s.endHold.SlotSound := by
  simp only [State.endHold]
  split
  · next hold =>
    have ended : (s.setStartUp { s.startUp with hold := false }).SlotSound :=
      h.of_keepsSlots ((State.KeepsSlots.refl s).of_frame ⟨rfl, rfl, rfl, rfl, rfl, rfl⟩)
    split
    · exact ended
    · rcases time with starting | running
      · exact ended.beginRead starting.mode
      · rw [running.hold] at hold
        cases hold
  · exact h

/-- Without supply the engine is IDLE, whatever is due (R132). -/
theorem loseSupply (h : s.SlotSound) : s.loseSupply.SlotSound :=
  ⟨h.breakPhase.of_frame (by simp [State.loseSupply]), Engine.lawful_idle_off rfl⟩

end State.SlotSound

/-! ### The start-up read (R149 to R152) -/

/-- A slot is decided while nothing is bound to it: it is marked CLEAR_DUE, bound to the record its image is issued
into, or left (R150). -/
theorem State.StoreSound.restoreSlot {s : State} (h : s.StoreSound) {k : SlotIdx} (unbound : (s.slot k).binding = none) :
    (s.restoreSlot k).StoreSound := by
  have marked := h.setSlot k (x := { s.slot k with mark := .clearDue }) rfl nofun
  have rejected : (s.reportRejected k).StoreSound := marked.of_frame (by simp [State.reportRejected])
  unfold State.restoreSlot
  split
  · exact h
  · exact marked.of_frame (by simp [State.reportDamaged])
  · split
    · exact rejected
    · next w hw =>
      split
      · unfold State.restoreWindow
        split
        · exact h
        · next i free =>
          obtain ⟨m, mode, -, rfl⟩ := imageWindow_eq_some.1 hw
          have stood := WindowRecord.slot_of_none ((s.findFree_eq_some i).1 free).1
          refine h.of_bindings (State.bindingLaw_bind (i := i) (k := k) h.bindings stood unbound ?_ ?_
            (fun j hj => ?_) fun j hj => ?_) (by simp)
          · simp [State.issue_record, Window.slot]
          · simp
          · simp [State.issue_record, hj]
          · simp [State.setSlot_slot, hj]
      · exact rejected

namespace State.SlotSound

variable {s : State}

/-- While the engine reads, the part is in STARTING, and the slots from there on are as the start left them. -/
theorem inStart_of_reading (h : s.SlotSound) (time : s.TimeSound) {cell : Cell} (reading : s.engine = .reading cell) :
    s.InStart s.engine.slotsRead :=
  time.resolve_right fun running => running.mode (Engine.lawful_reading h.engine reading)

/-- The band cell gives a committed band, or the value 64 to be written again (R149). -/
theorem readBandCell (h : s.SlotSound) : s.readBandCell.SlotSound := by
  unfold State.readBandCell
  split
  · next reading =>
    have starting := decide_eq_true (Engine.lawful_reading h.engine reading)
    split
    · next b _ =>
      have read : (s.setBand { s.band with committed := b, pending := none, writeDue := false }).StoreSound :=
        h.setBand nofun nofun h.cell
      exact ⟨read.setEngine _, starting⟩
    · have read : (s.setBand { s.band with committed := 64, pending := some 64, writeDue := true }).StoreSound :=
        h.setBand (fun _ => nofun) (fun v hv => Option.some.inj hv ▸ le_refl 64) h.cell
      exact ⟨(read.of_frame (by simp)).setEngine _, starting⟩
  all_goals exact h

/-- STARTING ends with the engine's first choice; before slot 11 the read goes on (R149, R152). -/
theorem readSlot (h : s.SlotSound) (time : s.TimeSound) (supply : s.pins.supply = true) (maint : Bool) :
    (s.readSlot maint).SlotSound := by
  unfold State.readSlot
  split
  · next k reading =>
    have start : s.InStart k.val := by
      have start := h.inStart_of_reading time reading
      rwa [reading] at start
    have seen : (s.setPins { s.pins with maint := maint }).SlotSound := h.setPins rfl
    have decided := seen.restoreSlot ((start.unread supply).slots k (le_refl _)).1
    have mode := ((start.of_frame (t := s.setPins { s.pins with maint := maint }) (by simp)).restoreSlot supply).mode
    simp only []
    split
    · exact ⟨decided.setEngine _, decide_eq_true mode⟩
    · obtain ⟨table, -, slots, band, -⟩ :=
        ((s.setPins { s.pins with maint := maint }).restoreSlot k).concluded_frame
      rw [State.endStarting_eq_kickEngine]
      exact (decided.of_frame ⟨table, slots, band⟩).kickEngine fun busy => absurd rfl busy
  all_goals exact h

end State.SlotSound

/-! ### Every step -/

/-- Every command keeps the laws of the slots and of the engine; the start-up read goes on what the start left. -/
theorem exec_slotSound (c : Instr) {s t : State} (h : s.SlotSound) (time : s.TimeSound) (hn : exec c s = .next t) :
    t.SlotSound := by
  have same := State.KeepsSlots.refl s
  cases hr : requestParts c with
  | some parts =>
    rw [exec_request c s (by simp [hr])] at hn
    exact whenPowered_keeps h (fun _ => h.takeRequest c) hn
  | none =>
    cases c with
    | frameEnd link ldi => exact Host.Outcome.next.inj hn ▸ h.riseLsel link ldi
    | checkStrobe cmas cadr cspan cwr =>
      exact whenPowered_keeps (f := (·.strobe ⟨cmas, cadr, cspan, cwr⟩)) h (fun _ => h.of_keepsSlots (.strobe _)) hn
    | checkRelease => exact whenPowered_keeps h (fun _ => h.of_keepsSlots .releaseStrobe) hn
    | tick => exact whenPowered_keeps h (fun _ => h.of_keepsSlots (same.of_frame (by simp))) hn
    | lapse m => exact whenPowered_keeps h (fun _ => h.of_keepsSlots (.lapse m)) hn
    | leaseExpiry i => exact whenPowered_keeps h (fun _ => h.of_keepsSlots (.expireLease i)) hn
    | leaselowWarning i =>
      exact whenPowered_keeps (f := (·.warnLease i)) h (fun _ => h.of_keepsSlots (.warnLease i)) hn
    | drainEnd i => exact whenPowered_keeps (f := (·.endDrain i)) h (fun _ => h.endDrain i) hn
    | waitExpiry m ticket => exact whenPowered_keeps h (fun _ => h.of_keepsSlots (.expireWait m ticket)) hn
    | slotEraseDone => exact whenPowered_keeps h (fun _ => h.slotErased) hn
    | slotProgramDone => exact whenPowered_keeps h (fun _ => h.slotProgrammed) hn
    | clearDone => exact whenPowered_keeps h (fun _ => h.slotCleared) hn
    | bandEraseDone => exact whenPowered_keeps h (fun _ => h.bandErased) hn
    | bandProgramDone => exact whenPowered_keeps h (fun _ => h.bandProgrammed) hn
    | bandCellRead => exact whenPowered_keeps h (fun _ => h.readBandCell) hn
    | slotRead maint =>
      exact whenPowered_keeps (f := (·.readSlot maint)) h (fun supply => h.readSlot time supply maint) hn
    | powerStart => exact Host.Outcome.next.inj hn ▸ h.powerStart _
    | powerOnHoldEnd => exact whenPowered_keeps h (fun _ => h.endHold time) hn
    | lineStart => exact Host.Outcome.next.inj hn ▸ h.assertReset
    | resetRelease => exact Host.Outcome.next.inj hn ▸ h.releaseReset
    | supplyLoss => exact whenPowered_keeps h (fun _ => h.loseSupply) hn
    | lselFall link => exact Host.Outcome.next.inj hn ▸ h.fallLsel link
    | lossOfRetention slot image => exact Host.Outcome.next.inj hn ▸ h.of_keepsSlots (.loseRetention slot image)
    | _ => cases hr

/-- Every step keeps the laws of the slots and of the engine. -/
theorem step_slotSound {s t : State} (h : s.safe) (hn : step s = .next t) : t.SlotSound := by
  rcases step_cases hn with rfl | ⟨c, rest, hc⟩
  · exact State.safe.slotSound h
  · have lawful := State.safe.with_pending h rest
    exact exec_slotSound c (State.safe.slotSound lawful) (State.safe.timeSound lawful).1 hc

end Sys2Proof.Machine

open Sys2Proof Sys2Proof.Machine

/-- Settles O58: a window comes to stand in an unbound slot and gives its slot up when it stands no more, and every
event that makes work due ends with the engine's choice. -/
theorem slotLawKept : Obligations.SlotLawKept := fun _ _ h hn => (step_slotSound h hn).laws

end

section
/-! PROOFS. The phases of a slot write and of a clear (R127, R129, R130), and a loss of retention (R123). -/

namespace Sys2Proof.Machine

section
variable {s : State} {k : SlotIdx} {image : Image} {i : RecIdx}

theorem State.slotErased_writing (erasing : s.engine = .erasingForWrite k image i) : s.slotErased =
    (s.setSlot k { s.slot k with content := .blank }).setEngine (.programmingSlot k image i) := by
  rw [State.slotErased, erasing]

theorem State.slotProgrammed_writing (programming : s.engine = .programmingSlot k image i) : s.slotProgrammed =
    ((s.setSlot k { s.slot k with content := .valid image }).noticeStored k i).endOperation := by
  rw [State.slotProgrammed, programming]

theorem State.slotCleared_clearing (clearing : s.engine = .erasingForClear k) : s.slotCleared =
    (s.setSlot k { s.slot k with content := .blank }).endOperation := by
  rw [State.slotCleared, clearing]

theorem State.loseRetention_valid {old : Image} (valid : (s.slot k).content = .valid old) (new : Image) :
    s.loseRetention k new = s.setSlot k { s.slot k with content := .valid new } := by
  rw [State.loseRetention, valid]

theorem Slot.imageCurrent_iff (x : Slot) (i : RecIdx) :
    x.imageCurrent i = true ↔ x.binding = some i ∧ x.mark = .none := by
  simp [Slot.imageCurrent]

/-- STORED is raised for the owner of the window the slot is still bound to (R129). -/
theorem State.noticeStored_current (bound : (s.slot k).binding = some i) (unmarked : (s.slot k).mark = .none)
    {w : Window} (held : (s.record i).window = some w) : s.noticeStored k i = s.raise w.owner .stored := by
  rw [State.noticeStored, if_pos (((s.slot k).imageCurrent_iff i).2 ⟨bound, unmarked⟩), held]
  rfl

/-- An image that was overtaken by a mark or by another binding raises nothing. -/
theorem State.noticeStored_overtaken (overtaken : (s.slot k).binding ≠ some i ∨ (s.slot k).mark ≠ .none) :
    s.noticeStored k i = s := by
  rw [State.noticeStored, if_neg]
  rw [(s.slot k).imageCurrent_iff i]
  tauto

end

end Sys2Proof.Machine

open Sys2Proof Sys2Proof.Machine

/-- Settles O43: the content written touches neither the binding nor the mark, so the image is current after the program
exactly when it was before. -/
theorem slotPhases : Obligations.SlotPhases := by
  refine ⟨fun s k image i supply => ⟨fun erasing => ?_, fun programming => ?_, fun clearing => ?_⟩,
    fun s k old new valid => ?_⟩
  · exact (whenPowered_next _ s supply).trans (by rw [State.slotErased_writing erasing])
  · intro written
    have slot : written.slot k = { s.slot k with content := .valid image } := s.setSlot_slot_same k _
    have done : exec .slotProgramDone s = .next (written.noticeStored k i).endOperation :=
      (whenPowered_next _ s supply).trans (by rw [State.slotProgrammed_writing programming])
    refine ⟨fun overtaken => ?_, fun w bound unmarked held => ?_⟩
    · rw [done, State.noticeStored_overtaken (by rwa [slot]), State.endOperation]
    · have window : (written.record i).window = some w := ((s.record i).window_eq_some w).2 held
      rw [done, State.noticeStored_current (by rw [slot]; exact bound) (by rw [slot]; exact unmarked) window,
        State.endOperation]
  · exact (whenPowered_next _ s supply).trans (by rw [State.slotCleared_clearing clearing, State.endOperation])
  · exact congrArg Host.Outcome.next (State.loseRetention_valid valid new)

end

section
/-! PROOFS. STAND and UNSTAND: their tests in order and their effect (R133, R134, R136). -/

namespace Sys2Proof.Machine

/-! ### The requests past the tests all requests share -/

section
variable {s : State} {m : Master} {h : Word} {w : Window}

theorem exec_stand (ho : s.takesOpen m) (hf : handleFormatOk h = true) : exec (.stand m h) s =
    .next (((s.renewSession m).withHandle h (standAnswer m (s.renewSession m))).reply m 0x20) :=
  whenPowered_serve_handle 0x20 (standAnswer m) ho hf

theorem exec_unstand (ho : s.takesOpen m) (hf : handleFormatOk h = true) : exec (.unstand m h) s =
    .next (((s.renewSession m).withHandle h (unstandAnswer m (s.renewSession m))).reply m 0x21) :=
  whenPowered_serve_handle 0x21 (unstandAnswer m) ho hf

end

/-! ### What the tests read, after the session renewal (R67) -/

section
variable (s : State) (m : Master)

theorem State.standingCount_eq_countP : s.standingCount m = (List.finRange 64).countP fun i =>
    (s.record i).window.any fun w => decide (w.owner = m) && w.isStanding := s.length_recordsWhere _

@[simp] theorem State.renewSession_standingCount (k : Master) :
    (s.renewSession m).standingCount k = s.standingCount k := by
  simp [State.standingCount_eq_countP]

end

/-! ### STAND, test by test (R133) -/

section
variable {s : State} {m : Master} {i : RecIdx} {w : Window}

theorem standAnswer_notOwner (owner : w.owner ≠ m) : standAnswer m s i w = s.refuse .notOwner := if_pos owner

theorem standAnswer_draining (owner : w.owner = m) (draining : w.drain ≠ none) :
    standAnswer m s i w = s.refuse .draining := by
  rw [standAnswer, if_neg (not_not.2 owner), if_pos (Option.isSome_iff_ne_none.2 draining)]

theorem standAnswer_standing (owner : w.owner = m) (live : w.drain = none) (standing : w.isStanding = true) :
    standAnswer m s i w = s.refuse .standing := by
  rw [standAnswer, if_neg (not_not.2 owner), if_neg (by simp [live]), if_pos standing]

variable (owner : w.owner = m) (live : w.drain = none) (leased : w.isStanding = false)
include owner live leased

theorem standAnswer_allowance (full : (s.session m).allowance ≤ s.standingCount m) :
    standAnswer m s i w = s.refuse .allowance := by
  rw [standAnswer, if_neg (not_not.2 owner), if_neg (by simp [live]), if_neg (by simp [leased]), if_pos full]

variable (room : s.standingCount m < (s.session m).allowance)
include room

theorem standAnswer_noSlot (full : s.findFreeSlot = none) : standAnswer m s i w = s.refuse .noSlot := by
  rw [standAnswer, if_neg (not_not.2 owner), if_neg (by simp [live]), if_neg (by simp [leased]),
    if_neg (Nat.not_le.2 room), full]

theorem standAnswer_stands {k : SlotIdx} (found : s.findFreeSlot = some k) :
    standAnswer m s i w = ((s.standWindow i w k).kickEngine).ok [word k.val] := by
  rw [standAnswer, if_neg (not_not.2 owner), if_neg (by simp [live]), if_neg (by simp [leased]),
    if_neg (Nat.not_le.2 room), found]

end

/-! ### UNSTAND, test by test (R136) -/

section
variable {s : State} {m : Master} {i : RecIdx} {w : Window}

theorem unstandAnswer_notOwner (owner : w.owner ≠ m) : unstandAnswer m s i w = s.refuse .notOwner := if_pos owner

variable (owner : w.owner = m)
include owner

theorem unstandAnswer_notStanding (leased : w.isStanding = false) :
    unstandAnswer m s i w = s.refuse .notStanding := by
  rw [unstandAnswer, if_neg (not_not.2 owner)]
  cases kind : w.kind with
  | standing k => simp [Window.isStanding, kind] at leased
  | session | timed _ => rfl

variable {k : SlotIdx} (standing : w.kind = .standing k)
include standing

theorem unstandAnswer_quota (short : (s.session m).quota < (s.tally m).usage + w.size) :
    unstandAnswer m s i w = s.refuse .quota := by
  rw [unstandAnswer, if_neg (not_not.2 owner), standing]
  exact if_pos short

theorem unstandAnswer_fits (room : (s.tally m).usage + w.size ≤ (s.session m).quota) :
    unstandAnswer m s i w = ((s.unstandWindow i w k).kickEngine).ok
      [word k.val, word (if (s.slot k).unstandFrees (s.engine.workOn k) then 1 else 2)] := by
  rw [unstandAnswer, if_neg (not_not.2 owner), standing]
  exact if_neg (Nat.not_lt.2 room)

end

/-! ### The states they leave (R134, R136) -/

theorem Slot.unstandFrees_iff (x : Slot) (work : Option SlotWork) :
    x.unstandFrees work = true ↔ x.content = .blank ∧ work = none ∧ x.mark ≠ .clearDue := by
  simp [Slot.unstandFrees, and_assoc]

section
variable {s : State} {m : Master} {h : Word} {w : Window} {k : SlotIdx}

/-- A window stands in a slot that was free. -/
theorem State.standWindow_of_names (hn : s.names h w) (owner : w.owner = m)
    (free : s.slot k = ⟨.blank, none, .none⟩) : s.standWindow (handleIndex h) w k =
      ((s.setSlot k ⟨.blank, some (handleIndex h), .writeDue⟩).setRecord (handleIndex h)
        ⟨handleGeneration h, .held { w with kind := .standing k }⟩).setTally m
        ⟨(s.tally m).usage - w.size, (s.tally m).windows⟩ := by
  subst owner
  simp [State.standWindow, State.setWindow, free, hn.1]

/-- A window is SESSION again, and its slot is released. -/
theorem State.unstandWindow_of_names (hn : s.names h w) (owner : w.owner = m) :
    s.unstandWindow (handleIndex h) w k =
      ((s.setRecord (handleIndex h) ⟨handleGeneration h, .held { w with kind := .session }⟩).setTally m
        ⟨(s.tally m).usage + w.size, (s.tally m).windows⟩).setSlot k
        ((s.slot k).unstand (s.engine.workOn k)) := by
  subst owner
  simp [State.unstandWindow, State.setWindow, State.changeSlot, hn.1]

end

end Sys2Proof.Machine

open Sys2Proof Sys2Proof.Machine

/-- Settles O40, from the cases of `standAnswer` and `unstandAnswer` on the renewed session. -/
theorem standRequests : Obligations.StandRequests := by
  intro m h s w ho hf hn i r stands free
  have renewed : r.names h w := (s.renewSession_names m h w).2 hn
  have count : r.standingCount m = stands := by rw [s.renewSession_standingCount, s.standingCount_eq_countP]
  have search : ∀ k, (r.slot k = ⟨.blank, none, .none⟩ ∧ r.engine.workOn k = none) = free k := fun k => by
    rw [s.renewSession_slot, s.renewSession_engine]
  have allowance : (r.session m).allowance = (s.session m).allowance := s.renewSession_allowance m m
  have quota : (r.session m).quota = (s.session m).quota := s.renewSession_quota m m
  have stand := fun {u st results} => answered_of_names (u := u) (st := st) (results := results) (exec_stand ho hf) hn
  have unstand := fun {u st results} =>
    answered_of_names (u := u) (st := st) (results := results) (exec_unstand ho hf) hn
  refine ⟨fun owner => ⟨stand (standAnswer_notOwner owner), unstand (unstandAnswer_notOwner owner)⟩, fun owner =>
    ⟨fun draining => stand (standAnswer_draining owner draining),
      fun live standing => stand (standAnswer_standing owner live standing),
      fun live leased => ⟨fun full => ?allowance, fun room taken => ?noSlot, fun k room unused lowest => ?stands⟩,
      fun leased => unstand (unstandAnswer_notStanding owner leased),
      fun k standing => ⟨fun short => ?quota, fun room => ?unstands⟩⟩⟩
  case allowance => exact stand (standAnswer_allowance owner live leased (by rwa [allowance, count]))
  case noSlot =>
    have full : r.findFreeSlot = none := r.findFreeSlot_eq_none.2 fun k => search k ▸ taken k
    exact stand (standAnswer_noSlot owner live leased (by rwa [allowance, count]) full)
  case stands =>
    have found : r.findFreeSlot = some k :=
      (r.findFreeSlot_eq_some k).2 ⟨search k ▸ unused, fun j hj => search j ▸ lowest j hj⟩
    have blank : r.slot k = ⟨.blank, none, .none⟩ := ((search k).symm ▸ unused).1
    have answer := standAnswer_stands (i := i) owner live leased (by rwa [allowance, count]) found
    rw [State.standWindow_of_names renewed owner blank, s.renewSession_tally] at answer
    exact stand answer
  case quota => exact unstand (unstandAnswer_quota owner standing (by rwa [quota, s.renewSession_tally]))
  case unstands =>
    intro left freed
    have frees : (r.slot k).unstandFrees (r.engine.workOn k) = true ↔ freed := by
      rw [Slot.unstandFrees_iff, s.renewSession_slot, s.renewSession_engine]
    have answer := unstandAnswer_fits (s := r) (i := i) owner standing (by rwa [quota, s.renewSession_tally])
    rw [State.unstandWindow_of_names renewed owner, Slot.unstand, s.renewSession_tally] at answer
    refine ⟨fun yes => ?_, fun no => ?_⟩
    · rw [if_pos (frees.2 yes), if_pos (frees.2 yes), s.renewSession_slot] at answer
      exact unstand answer
    · rw [if_neg (mt frees.1 no), if_neg (mt frees.1 no), s.renewSession_slot] at answer
      exact unstand answer

end

section
/-! PROOFS. The band law (R144): the operations that let no master claim anything it did not hold or wait for, and the
few that add a claim or move the band. -/

namespace Sys2Proof.Machine

/-! ### The effective claim band (R138) -/

theorem BandControl.effective_of_none {b : BandControl} (h : b.pending = none) : b.effective = b.committed := by
  rw [BandControl.effective, h]

theorem BandControl.effective_of_some {b : BandControl} {v : Nat} (h : b.pending = some v) :
    b.effective = max b.committed v := by
  rw [BandControl.effective, h]

theorem BandControl.committed_le_effective (b : BandControl) : b.committed ≤ b.effective := by
  cases h : b.pending with
  | none => exact (BandControl.effective_of_none h).ge
  | some v => exact BandControl.effective_of_some h ▸ le_max_left _ _

/-- The engine's choice of the band cell only clears the flag that its write is due (R142). -/
theorem State.kickEngine_claimBands (s : State) :
    s.kickEngine.band.committed = s.band.committed ∧ s.kickEngine.band.effective = s.band.effective := by
  unfold State.kickEngine
  split
  · unfold State.chooseTarget
    split
    · exact ⟨rfl, rfl⟩
    · split
      · exact ⟨rfl, rfl⟩
      · split <;> exact ⟨rfl, rfl⟩
  · exact ⟨rfl, rfl⟩

/-! ### Claims clear of the bands -/

/-- No window of a master other than 0 overlaps a band of the first value, and no waiter of one a band of the
second. -/
structure State.ClearOf (s : State) (committed effective : Nat) : Prop where
  windows : ∀ i : RecIdx, ∀ w ∈ (s.record i).window, w.owner ≠ 0 → 64 * committed ≤ w.base
  waiters : ∀ e ∈ s.queue, e.master ≠ 0 → 64 * effective ≤ e.base

/-- The band law, as one predicate that every operation keeps. -/
def State.BandSound (s : State) : Prop := s.ClearOf s.band.committed s.band.effective

theorem State.bandLaw_iff {s : State} : s.bandLaw ↔ s.BandSound :=
  ⟨fun ⟨windows, waiters⟩ => ⟨windows, waiters⟩, fun ⟨windows, waiters⟩ => ⟨windows, waiters⟩⟩

theorem State.safe.bandSound {s : State} (h : s.safe) : s.BandSound := by
  obtain ⟨-, -, -, -, -, -, -, -, band, -⟩ := h
  exact State.bandLaw_iff.1 band

/-- From one state to a later one the committed band and the effective claim band have not changed, and windows and
waiters are clear of any band the earlier ones were clear of. -/
structure State.KeepsBand (s t : State) : Prop where
  committed : t.band.committed = s.band.committed
  effective : t.band.effective = s.band.effective
  clear : ∀ c e, c ≤ e → s.ClearOf c e → t.ClearOf c e

theorem State.BandSound.of_keepsBand {s t : State} (h : s.BandSound) (kept : s.KeepsBand t) : t.BandSound := by
  rw [State.BandSound, kept.committed, kept.effective]
  exact kept.clear _ _ s.band.committed_le_effective h

namespace State.KeepsBand

variable {s t u : State}

theorem refl (s : State) : s.KeepsBand s := ⟨rfl, rfl, fun _ _ _ h => h⟩

/-- Every window has the owner and the base of the window its record held, or of a waiter, and no waiter is new. -/
theorem of_claims (h : s.KeepsBand u)
    (windows : ∀ i, ∀ w ∈ (t.record i).window, (∃ v ∈ (u.record i).window, w.owner = v.owner ∧ w.base = v.base) ∨
      ∃ e ∈ u.queue, w.owner = e.master ∧ w.base = e.base)
    (frame : (∀ e ∈ t.queue, e ∈ u.queue) ∧ t.band.committed = u.band.committed ∧
      t.band.effective = u.band.effective) : s.KeepsBand t := by
  obtain ⟨waiters, committed, effective⟩ := frame
  refine ⟨committed.trans h.committed, effective.trans h.effective, fun c e le clear => ?_⟩
  have before := h.clear c e le clear
  refine ⟨fun i w hw other => ?_, fun x hx => before.waiters x (waiters x hx)⟩
  obtain ⟨v, hv, owner, base⟩ | ⟨x, hx, owner, base⟩ := windows i w hw
  · exact base ▸ before.windows i v hv (owner ▸ other)
  · exact base ▸ (Nat.mul_le_mul_left 64 le).trans (before.waiters x hx (owner ▸ other))

/-- An operation on other pieces of the state; waiters may leave the queue. -/
theorem of_frame (h : s.KeepsBand u) (frame : t.table = u.table ∧ (∀ e ∈ t.queue, e ∈ u.queue) ∧
    t.band.committed = u.band.committed ∧ t.band.effective = u.band.effective) : s.KeepsBand t := by
  have record : ∀ i, t.record i = u.record i := fun i => by rw [State.record, frame.1]; rfl
  exact h.of_claims (fun i w hw => .inl ⟨w, record i ▸ hw, rfl, rfl⟩) frame.2

/-- A window in force is written again for its owner and base. -/
theorem setWindow (h : s.KeepsBand u) {i : RecIdx} {w w' : Window} (hw : (u.record i).window = some w)
    (owner : w'.owner = w.owner) (base : w'.base = w.base) : s.KeepsBand (u.setWindow i w') := by
  refine h.of_claims (fun j v hv => .inl ?_) (by simp)
  rw [State.setWindow_record] at hv
  split at hv
  · next same =>
    obtain rfl := Option.some.inj hv
    exact ⟨w, same ▸ hw, owner, base⟩
  · exact ⟨v, hv, rfl, rfl⟩

theorem raise (h : s.KeepsBand u) (m : Master) (f : Flag) : s.KeepsBand (u.raise m f) := h.of_frame (by simp)
theorem setNotice (h : s.KeepsBand u) (m : Master) (n : Notice) : s.KeepsBand (u.setNotice m n) :=
  h.of_frame (by simp)
theorem setWatch (h : s.KeepsBand u) (k : WatchIdx) (w : WatchRecord) : s.KeepsBand (u.setWatch k w) :=
  h.of_frame (by simp)
theorem setLink (h : s.KeepsBand u) (m : Master) (l : Link) : s.KeepsBand (u.setLink m l) := h.of_frame (by simp)
theorem setPins (h : s.KeepsBand u) (p : Pins) : s.KeepsBand (u.setPins p) := h.of_frame (by simp)
theorem setEngine (h : s.KeepsBand u) (e : Engine) : s.KeepsBand (u.setEngine e) := h.of_frame (by simp)
theorem setSlot (h : s.KeepsBand u) (k : SlotIdx) (x : Slot) : s.KeepsBand (u.setSlot k x) := h.of_frame (by simp)
theorem setSessionState (h : s.KeepsBand u) (m : Master) (x : SessionState) : s.KeepsBand (u.setSessionState m x) :=
  h.of_frame (by simp)
theorem placeReply (h : s.KeepsBand u) (m : Master) (r : Reply) : s.KeepsBand (u.placeReply m r) :=
  h.of_frame (by simp)
theorem renewSession (h : s.KeepsBand u) (m : Master) : s.KeepsBand (u.renewSession m) := h.of_frame (by simp)

theorem kickEngine (h : s.KeepsBand u) : s.KeepsBand u.kickEngine :=
  h.of_frame ⟨by simp, by simp, u.kickEngine_claimBands⟩

theorem endOperation (h : s.KeepsBand u) : s.KeepsBand u.endOperation := (h.setEngine .idle).kickEngine

/-! ### The shared operations -/

theorem retire (h : s.KeepsBand u) (cause : RetireCause) (i : RecIdx) : s.KeepsBand (u.retire cause i) := by
  cases held : (u.record i).window with
  | none => rwa [u.retire_free cause i held]
  | some w =>
    refine h.of_claims (fun j v hv => .inl ?_) (by simp)
    rw [u.retire_record cause i w held] at hv
    split at hv
    · cases hv
    · exact ⟨v, hv, rfl, rfl⟩

theorem retireAll (h : s.KeepsBand u) (cause : RetireCause) (l : List RecIdx) : s.KeepsBand (u.retireAll cause l) :=
  List.foldlRecOn _ _ h fun _ ht i _ => ht.retire cause i

theorem removeWaiters (h : s.KeepsBand u) (cause : Option FailCause) (p : Waiter → Bool) :
    s.KeepsBand (u.removeWaiters cause p) :=
  h.of_frame ⟨by simp, fun e he => by
    rw [State.removeWaiters_queue] at he
    exact (List.mem_filter.1 he).1, by simp⟩

/-- What the scan grants is what a waiter asked for (R54). -/
theorem grantScan (h : s.KeepsBand u) : s.KeepsBand u.grantScan := by
  refine h.of_claims (fun i w hw => ?_) ⟨fun e he => u.grantScan_queue.subset he, by simp⟩
  cases held : (u.record i).window with
  | some v =>
    rw [u.grantScan_record i (by simp [held]), held] at hw
    exact .inl ⟨w, hw, rfl, rfl⟩
  | none =>
    rcases u.grantScan_record_free i held with same | ⟨e, he, issued⟩
    · rw [same, held] at hw
      cases hw
    · rw [issued] at hw
      obtain rfl := Option.some.inj hw
      exact .inr ⟨e, he, rfl, rfl⟩

theorem drainWindow (h : s.KeepsBand u) (cause : DrainCause) (grace : Nat) (i : RecIdx) :
    s.KeepsBand (u.drainWindow cause grace i) := by
  unfold State.drainWindow
  split
  · exact h
  · next w hw =>
    split
    · exact h.retire _ i
    · exact (h.setWindow (w' := { w with drain := some (u.drainOf w cause grace) }) hw rfl rfl).raise _ _

theorem widen (h : s.KeepsBand u) (value grace : Nat) : s.KeepsBand (u.widen value grace) := by
  have drained : s.KeepsBand (u.bandDrained value grace) :=
    List.foldlRecOn _ _ h fun _ ht i _ => ht.drainWindow .banded grace i
  have removed : s.KeepsBand (u.bandRemoved value grace) := drained.removeWaiters _ _
  obtain scanned | ⟨left, -⟩ := u.widen_cases value grace
  · exact scanned ▸ removed.grantScan
  · exact left ▸ removed

theorem endSession (h : s.KeepsBand u) (m : Master) (cause : RetireCause) (fail : Option FailCause)
    (after : SessionState) : s.KeepsBand (u.endSession m cause fail after) := by
  have vacated := (h.retireAll cause (u.recordsWhere fun _ w => endsWith m w)).removeWaiters fail
    fun e => decide (e.master = m)
  exact ((vacated.of_frame (t := State.freeWatches _ m) (by simp)).setSessionState m after).grantScan

theorem changeMode (h : s.KeepsBand u) {i : RecIdx} {w : Window} (hw : (u.record i).window = some w)
    (mode : AccessMode) : s.KeepsBand (u.changeMode i w mode) :=
  (h.setWindow (w' := { w with mode := mode }) hw rfl rfl).of_frame (by simp [State.changeMode])

theorem applyVerdict (h : s.KeepsBand u) (a : Access) (v : Verdict) : s.KeepsBand (u.applyVerdict a v) := by
  have touched : s.KeepsBand (u.touch v) := by
    unfold State.touch
    split
    · next i =>
      cases hw : (u.record i).window with
      | none => exact h
      | some w => exact h.setWindow (w' := { w with touched := true }) hw rfl rfl
    · exact h
    · exact h
  cases hm : checkMaster a.cmas with
  | none => rwa [State.applyVerdict_noMaster _ a _ hm]
  | some m =>
    rw [State.applyVerdict_master _ a _ hm]
    exact touched.of_frame (by simp)

theorem breakPhase (h : s.KeepsBand u) : s.KeepsBand u.breakPhase := by
  have damaged : s.KeepsBand (u.setBand { u.band with cell := .damaged }) :=
    h.of_frame ⟨rfl, fun _ he => he, rfl, rfl⟩
  unfold State.breakPhase
  split
  · exact h.setSlot _ _
  · exact h.setSlot _ _
  · exact h.setSlot _ _
  · exact damaged
  · exact damaged
  · exact h
  · exact h

end State.KeepsBand

end Sys2Proof.Machine
end

section
/-! PROOFS. The requests and the events for the band law, and the statement that every step keeps it. -/

namespace Sys2Proof.Machine

/-! ### The requests that claim nothing -/

namespace State.KeepsBand

variable {s u : State}

theorem openAnswer (h : s.KeepsBand u) (m : Master) (period : Nat) : s.KeepsBand (openAnswer m period u).state := by
  unfold Machine.openAnswer
  split
  · exact h
  · split
    · exact h
    · exact h.setSessionState m _
    · exact h.setSessionState m _

theorem closeAnswer (h : s.KeepsBand u) (m : Master) : s.KeepsBand (closeAnswer m u).state := by
  unfold Machine.closeAnswer
  split
  · exact h.endSession m _ _ _
  · exact h.setSessionState m _
  · exact h

theorem evictAnswer (h : s.KeepsBand u) (target : Word) : s.KeepsBand (evictAnswer target u).state := by
  unfold Machine.evictAnswer
  split
  · exact h
  · unfold evictTarget
    split
    · exact h.endSession _ _ _ _
    · exact h.setSessionState _ _
    · exact h

theorem renewAnswer (h : s.KeepsBand u) (m : Master) (handle : Word) (ticks : Nat) :
    s.KeepsBand (renewAnswer m handle ticks u).state := by
  unfold Machine.renewAnswer
  split
  · exact h
  · refine State.withHandle_keeps h fun i w hw => ?_
    unfold renewWindow
    split
    · exact h
    · split
      · exact h
      · split
        · exact h.setWindow hw rfl rfl
        · exact h
        · exact h

theorem releaseWindow (h : s.KeepsBand u) (m : Master) (i : RecIdx) (w : Window) :
    s.KeepsBand (releaseWindow m u i w).state := by
  unfold Machine.releaseWindow
  split
  · exact h
  · split
    · exact h
    · exact (h.retire _ i).grantScan

theorem downgradeWindow (h : s.KeepsBand u) (m : Master) {i : RecIdx} {w : Window}
    (hw : (u.record i).window = some w) : s.KeepsBand (downgradeWindow m u i w).state := by
  unfold Machine.downgradeWindow
  split
  · exact h
  · split
    · exact h
    · exact (h.changeMode hw .read).grantScan.kickEngine

theorem upgradeWindow (h : s.KeepsBand u) (m : Master) {i : RecIdx} {w : Window}
    (hw : (u.record i).window = some w) : s.KeepsBand (upgradeWindow m u i w).state := by
  unfold Machine.upgradeWindow
  split
  · exact h
  · split
    · exact h
    · split
      · exact h
      · split
        · exact h
        · exact (h.changeMode hw .write).kickEngine

theorem queryWindow (h : s.KeepsBand u) {i : RecIdx} {w : Window} (hw : (u.record i).window = some w) :
    s.KeepsBand (queryWindow u i w).state :=
  h.setWindow (w' := { w with touched := false }) hw rfl rfl

theorem listAnswer (h : s.KeepsBand u) (m : Master) (start target : Word) :
    s.KeepsBand (listAnswer m start target u).state := by
  unfold Machine.listAnswer
  split
  · exact h
  · split
    · exact h
    · split <;> exact h

theorem cancelAnswer (h : s.KeepsBand u) (m : Master) (t : Word) : s.KeepsBand (cancelAnswer m t u).state := by
  unfold Machine.cancelAnswer
  split
  · exact (h.removeWaiters _ _).grantScan
  · exact h
  · exact h
  · exact h

theorem ticketAnswer (h : s.KeepsBand u) (m : Master) (t : Word) : s.KeepsBand (ticketAnswer m t u).state := by
  unfold Machine.ticketAnswer
  split <;> exact h

theorem standAnswer (h : s.KeepsBand u) (m : Master) {i : RecIdx} {w : Window} (hw : (u.record i).window = some w) :
    s.KeepsBand (standAnswer m u i w).state := by
  unfold Machine.standAnswer
  split
  · exact h
  · split
    · exact h
    · split
      · exact h
      · split
        · exact h
        · split
          · exact h
          · next k _ =>
            have stood : s.KeepsBand (u.standWindow i w k) :=
              (h.setWindow (w' := { w with kind := .standing k }) hw rfl rfl).of_frame
                ⟨by simp [State.standWindow, State.setWindow, State.setRecord, State.record], by simp⟩
            exact stood.kickEngine

theorem unstandAnswer (h : s.KeepsBand u) (m : Master) {i : RecIdx} {w : Window}
    (hw : (u.record i).window = some w) : s.KeepsBand (unstandAnswer m u i w).state := by
  unfold Machine.unstandAnswer
  split
  · exact h
  · split
    · exact h
    · exact h
    · next k _ =>
      split
      · exact h
      · have changed : s.KeepsBand (u.unstandWindow i w k) :=
          (h.setWindow (w' := { w with kind := .session }) hw rfl rfl).of_frame (by simp [State.unstandWindow])
        exact changed.kickEngine

theorem watchSetAnswer (h : s.KeepsBand u) (m : Master) (base size : Nat) (kinds : WatchKinds) :
    s.KeepsBand (watchSetAnswer m base size kinds u).state := by
  unfold Machine.watchSetAnswer
  split
  · exact h
  · split
    · exact h
    · split
      · exact h
      · exact h.setWatch _ _

theorem quotaAnswer (h : s.KeepsBand u) (target : Word) (quota allowance : Nat) :
    s.KeepsBand (quotaAnswer target quota allowance u).state := by
  unfold Machine.quotaAnswer
  split
  · exact h
  · split
    · exact h
    · split
      · exact h
      · exact h.of_frame (by simp [State.ok])

theorem revokeAnswer (h : s.KeepsBand u) (handle : Word) (grace : Nat) :
    s.KeepsBand (revokeAnswer handle grace u).state := by
  unfold Machine.revokeAnswer
  split
  · exact h
  · refine State.withHandle_keeps h fun i w _ => ?_
    unfold revokeWindow
    split
    · exact (h.drainWindow _ _ i).grantScan.kickEngine
    · have marked : s.KeepsBand ((u.drainWindow .revoked grace i).markRevokedOf w) :=
        (h.drainWindow .revoked grace i).of_frame (by simp)
      exact marked.kickEngine

theorem purgeAnswer (h : s.KeepsBand u) (slot : Word) : s.KeepsBand (purgeAnswer slot u).state := by
  unfold Machine.purgeAnswer
  split
  · exact h
  · next k _ =>
    split
    · have purged : s.KeepsBand (u.purgeWindow (u.slot k).binding) := by
        cases (u.slot k).binding with
        | none => exact h
        | some i => exact (h.retire _ i).grantScan
      exact (purged.setSlot k _).kickEngine
    · exact h

/-! ### The events that claim nothing -/

theorem fallLsel (h : s.KeepsBand u) (m : Master) : s.KeepsBand (u.fallLsel m) := by
  unfold State.fallLsel
  split <;> exact h.setLink m _

theorem strobe (h : s.KeepsBand u) (a : Access) : s.KeepsBand (u.strobe a) := by
  have seen := h.setPins { u.pins with cstb := true }
  simp only [State.strobe]
  split
  · exact seen
  · exact (seen.applyVerdict a (u.verdict a)).of_frame (by simp)

theorem releaseStrobe (h : s.KeepsBand u) : s.KeepsBand u.releaseStrobe := by
  simp only [State.releaseStrobe]
  split <;> exact h.of_frame (by simp)

theorem lapse (h : s.KeepsBand u) (m : Master) : s.KeepsBand (u.lapse m) := by
  unfold State.lapse
  split
  · exact (h.endSession m .lapsed none .lapsed).of_frame (by simp)
  · exact h

theorem expireLease (h : s.KeepsBand u) (i : RecIdx) : s.KeepsBand (u.expireLease i) := by
  unfold State.expireLease
  split
  · exact (h.retire _ i).grantScan
  · exact h

theorem warnLease (h : s.KeepsBand u) (i : RecIdx) : s.KeepsBand (u.warnLease i) := by
  unfold State.warnLease
  split
  · exact h
  · next w hw =>
    split
    · have warned : w.warn.owner = w.owner ∧ w.warn.base = w.base := by
        unfold Window.warn
        split <;> exact ⟨rfl, rfl⟩
      exact (h.setWindow hw warned.1 warned.2).raise _ _
    · exact h

theorem endDrain (h : s.KeepsBand u) (i : RecIdx) : s.KeepsBand (u.endDrain i) := by
  unfold State.endDrain
  split
  · exact h
  · split
    · exact (h.retire _ i).grantScan.kickEngine
    · exact h

theorem expireWait (h : s.KeepsBand u) (m : Master) (t : Word) : s.KeepsBand (u.expireWait m t) := by
  unfold State.expireWait
  split
  · exact (h.removeWaiters _ _).grantScan
  · exact h

theorem slotErased (h : s.KeepsBand u) : s.KeepsBand u.slotErased := h.of_frame (by simp)

theorem slotProgrammed (h : s.KeepsBand u) : s.KeepsBand u.slotProgrammed := by
  unfold State.slotProgrammed
  split
  · next k image i _ =>
    have noticed : s.KeepsBand ((u.setSlot k { u.slot k with content := .valid image }).noticeStored k i) :=
      h.of_frame (by simp)
    exact noticed.endOperation
  all_goals exact h

theorem slotCleared (h : s.KeepsBand u) : s.KeepsBand u.slotCleared := by
  unfold State.slotCleared
  split
  · exact (h.setSlot _ _).endOperation
  all_goals exact h

theorem bandErased (h : s.KeepsBand u) : s.KeepsBand u.bandErased := by
  unfold State.bandErased
  split
  · exact h.setEngine _
  all_goals exact h

theorem endHold (h : s.KeepsBand u) : s.KeepsBand u.endHold := by
  have ended : s.KeepsBand (u.setStartUp { u.startUp with hold := false }) := h.of_frame (by simp)
  simp only [State.endHold]
  split
  · split
    · exact ended
    · exact ended.setEngine _
  · exact h

theorem releaseReset (h : s.KeepsBand u) : s.KeepsBand u.releaseReset := by
  simp only [State.releaseReset]
  split
  · exact (h.setPins _).setEngine _
  · exact h.setPins _

theorem loseSupply (h : s.KeepsBand u) : s.KeepsBand u.loseSupply :=
  h.breakPhase.of_frame (by simp [State.loseSupply])

theorem endStarting (h : s.KeepsBand u) : s.KeepsBand u.endStarting := by
  obtain ⟨table, -, -, band, -, queue, -⟩ := u.concluded_frame
  have concluded : s.KeepsBand u.concluded := h.of_frame ⟨table, fun e he => queue ▸ he, by rw [band], by rw [band]⟩
  exact concluded.kickEngine

end State.KeepsBand

/-! ### Claims, and moves of the band -/

namespace State.BandSound

variable {s : State}

/-- A claim past the band test lies over the effective claim band, and so over the committed band (R27). -/
theorem claimAnswer (h : s.BandSound) (m : Master) (c : ClaimOperands) : (claimAnswer m c s).state.BandSound := by
  refine State.gated_keeps h fun _ => State.gated_keeps h fun fits => ?_
  obtain ⟨beyond, -⟩ := (s.claimFault_eq_none m c).1 fits
  have le := s.band.committed_le_effective
  split
  · next i _ =>
    refine ⟨fun j w hw other => ?_, fun e he => ?_⟩
    · rw [State.ok, State.issue_record] at hw
      split at hw
      · obtain rfl := Option.some.inj hw
        exact (Nat.mul_le_mul_left 64 le).trans (beyond other)
      · exact h.windows j w hw other
    · exact h.waiters e (by simpa [State.ok] using he)
  · unfold State.claimWaits
    split
    · split
      · refine ⟨fun j w hw => h.windows j w (by simpa using hw), fun e he other => ?_⟩
        rcases List.mem_append.1 he with old | new
        · exact h.waiters e old other
        · obtain rfl := List.mem_singleton.1 new
          exact beyond other
      · exact h
    · split <;> exact h

/-- A value over the effective claim band: the waiters it reaches are removed, and no window is over the committed band
(R140, R141). -/
theorem widen (h : s.BandSound) {value : Nat} (wider : s.band.effective < value) (grace : Nat) :
    ((s.setPendingBand value).widen value grace).BandSound := by
  have kept := (State.KeepsBand.refl (s.setPendingBand value)).widen value grace
  have old := kept.clear _ _ s.band.committed_le_effective ⟨h.windows, h.waiters⟩
  refine ⟨kept.committed.symm ▸ old.windows, fun e he other => ?_⟩
  have stays := (List.mem_filter.1 (((s.setPendingBand value).widen_queue value grace).subset he)).2
  have clear := ((bandTakesWaiter_eq_false value e).1 (by simpa using stays)).resolve_left other
  have effective : (s.setPendingBand value).band.effective = value :=
    (BandControl.effective_of_some rfl).trans (max_eq_right (s.band.committed_le_effective.trans wider.le))
  rwa [kept.effective, effective]

/-- A value not over the effective claim band moves neither band up (R139). -/
theorem setPendingBand (h : s.BandSound) {value : Nat} (narrower : value ≤ s.band.effective) :
    (s.setPendingBand value).BandSound := by
  have le : (s.setPendingBand value).band.effective ≤ s.band.effective :=
    (BandControl.effective_of_some rfl).trans_le (max_le s.band.committed_le_effective narrower)
  exact ⟨h.windows, fun e he other => (Nat.mul_le_mul_left 64 le).trans (h.waiters e he other)⟩

theorem kickEngine (h : s.BandSound) : s.kickEngine.BandSound := h.of_keepsBand (State.KeepsBand.refl s).kickEngine

theorem endOperation (h : s.BandSound) : s.endOperation.BandSound :=
  h.of_keepsBand (State.KeepsBand.refl s).endOperation

theorem bandAnswer (h : s.BandSound) (value grace : Nat) : (bandAnswer value grace s).state.BandSound := by
  unfold Machine.bandAnswer
  split
  · exact h
  · unfold bandValueAnswer
    split
    · next wider => exact (h.widen wider grace).kickEngine
    · next narrower =>
      split
      · exact (h.setPendingBand (Nat.le_of_not_lt narrower)).kickEngine
      · split <;> exact h

/-- A start leaves no window and no waiter (R147). -/
theorem beginStart (s : State) (cause : StartCause) (hold : Bool) : (s.beginStart cause hold).BandSound :=
  ⟨fun i w hw => by simp at hw, fun e he => by simp at he⟩

theorem setEngine (h : s.BandSound) (e : Engine) : (s.setEngine e).BandSound :=
  h.of_keepsBand ((State.KeepsBand.refl s).setEngine e)

theorem serve (h : s.BandSound) {m : Master} {code : Byte} {ok : Bool} {body : State → Answer}
    (hb : ∀ u : State, u.BandSound → (body u).state.BandSound) : (serve m code ok body s).BandSound :=
  serve_keeps (h.of_keepsBand ((State.KeepsBand.refl s).renewSession m)) (hb _) fun u r hu =>
    hu.of_keepsBand ((State.KeepsBand.refl u).placeReply m r)

/-! ### Every request -/

theorem takeRequest (h : s.BandSound) (i : Instr) : (takeRequest i s).BandSound := by
  cases i with dsimp only [Machine.takeRequest]
  | nop m => exact h.serve fun u hu => State.gated_keeps hu fun _ => hu
  | status m => exact h.serve fun u hu => State.gated_keeps hu fun _ => hu
  | keepalive m => exact h.serve fun u hu => State.gated_keeps hu fun _ => hu
  | noticeRead m => exact h.serve fun u hu => State.gated_keeps hu fun _ => hu
  | openSession m period =>
    exact h.serve fun u hu => State.gated_keeps hu fun _ => hu.of_keepsBand (.openAnswer (.refl u) m _)
  | close m => exact h.serve fun u hu => State.gated_keeps hu fun _ => hu.of_keepsBand (.closeAnswer (.refl u) m)
  | claim m base size options lease limit =>
    exact h.serve fun u hu => State.gated_keeps hu fun _ => hu.claimAnswer m _
  | renew m handle ticks =>
    exact h.serve fun u hu => State.gated_keeps hu fun _ => hu.of_keepsBand (.renewAnswer (.refl u) m _ _)
  | release m handle =>
    exact h.serve fun u hu => State.gated_keeps hu fun _ =>
      State.withHandle_keeps hu fun _ _ _ => hu.of_keepsBand (.releaseWindow (.refl u) m _ _)
  | downgrade m handle =>
    exact h.serve fun u hu => State.gated_keeps hu fun _ =>
      State.withHandle_keeps hu fun _ _ hw => hu.of_keepsBand (.downgradeWindow (.refl u) m hw)
  | upgrade m handle =>
    exact h.serve fun u hu => State.gated_keeps hu fun _ =>
      State.withHandle_keeps hu fun _ _ hw => hu.of_keepsBand (.upgradeWindow (.refl u) m hw)
  | query m handle =>
    exact h.serve fun u hu => State.gated_keeps hu fun _ =>
      State.withHandle_keeps hu fun _ _ hw => hu.of_keepsBand (.queryWindow (.refl u) hw)
  | list m start target =>
    exact h.serve fun u hu => State.gated_keeps hu fun _ => hu.of_keepsBand (.listAnswer (.refl u) m _ _)
  | cancel m t =>
    exact h.serve fun u hu => State.gated_keeps hu fun _ => hu.of_keepsBand (.cancelAnswer (.refl u) m t)
  | ticket m t =>
    exact h.serve fun u hu => State.gated_keeps hu fun _ => hu.of_keepsBand (.ticketAnswer (.refl u) m t)
  | stand m handle =>
    exact h.serve fun u hu => State.gated_keeps hu fun _ =>
      State.withHandle_keeps hu fun _ _ hw => hu.of_keepsBand (.standAnswer (.refl u) m hw)
  | unstand m handle =>
    exact h.serve fun u hu => State.gated_keeps hu fun _ =>
      State.withHandle_keeps hu fun _ _ hw => hu.of_keepsBand (.unstandAnswer (.refl u) m hw)
  | watchSet m base size kinds =>
    exact h.serve fun u hu => State.gated_keeps hu fun _ => hu.of_keepsBand (.watchSetAnswer (.refl u) m _ _ _)
  | watchClear m id =>
    exact h.serve fun u hu => State.gated_keeps hu fun _ =>
      State.withWatch_keeps hu fun k _ _ _ => hu.of_keepsBand (.setWatch (.refl u) k _)
  | watchRead m id =>
    exact h.serve fun u hu => State.gated_keeps hu fun _ =>
      State.withWatch_keeps hu fun k _ _ _ => hu.of_keepsBand (.setWatch (.refl u) k _)
  | noticeAck m mask =>
    exact h.serve fun u hu => State.gated_keeps hu fun _ => hu.of_keepsBand (.setNotice (.refl u) m _)
  | noticeEnable m mask line =>
    exact h.serve fun u hu => State.gated_keeps hu fun _ => hu.of_keepsBand (.setNotice (.refl u) m _)
  | quota m target quota allowance =>
    exact h.serve fun u hu => State.gated_keeps hu fun _ => hu.of_keepsBand (.quotaAnswer (.refl u) _ _ _)
  | revoke m handle grace =>
    exact h.serve fun u hu => State.gated_keeps hu fun _ => hu.of_keepsBand (.revokeAnswer (.refl u) _ _)
  | evict m target =>
    exact h.serve fun u hu => State.gated_keeps hu fun _ => hu.of_keepsBand (.evictAnswer (.refl u) _)
  | restart m =>
    unfold takeRestart
    split
    · exact h.serve fun u hu => State.gated_keeps hu fun _ => hu
    · exact (beginStart _ .soft false).setEngine _
  | band m value grace => exact h.serve fun u hu => State.gated_keeps hu fun _ => hu.bandAnswer _ _
  | purge m slot =>
    exact h.serve fun u hu => State.gated_keeps hu fun _ => hu.of_keepsBand (.purgeAnswer (.refl u) _)
  | _ => exact h

/-! ### Links (R158, R161) -/

theorem setLink (h : s.BandSound) (m : Master) (l : Link) : (s.setLink m l).BandSound :=
  h.of_keepsBand (.setLink (.refl s) m l)

theorem takeFrame (h : s.BandSound) (m : Master) : (s.takeFrame m).BandSound := by
  have same := State.KeepsBand.refl s
  simp only [State.takeFrame]
  split
  · exact h.of_keepsBand (same.placeReply m _)
  · exact h.of_keepsBand ((same.renewSession m).placeReply m _)
  · exact h.of_keepsBand ((same.renewSession m).placeReply m _)
  · exact h.takeRequest _

theorem riseLsel (h : s.BandSound) (m : Master) (ldi : Clocked) : (s.riseLsel m ldi).BandSound := by
  unfold State.riseLsel
  split
  · simp only [State.endFrame]
    split
    · exact h.setLink m _
    · split
      · exact h.setLink m _
      · exact (h.setLink m _).takeFrame m
  · exact h.setLink m _

/-! ### The commit (R143) -/

/-- The windows over the new value are retired, and the waiters lie over the pending band, which it is (R143). -/
theorem commitBand (h : s.BandSound) {value : Nat} (pending : s.band.pending = some value) :
    (s.commitBand value).BandSound := by
  let moved := s.setBand { s.band with committed := value, pending := none }
  let taken := moved.bandTaken value
  have retired : (moved.retireAll .banded taken).BandSound := by
    rw [State.BandSound, State.retireAll_band]
    refine ⟨fun i w hw other => ?_, fun e he other => ?_⟩
    · by_cases listed : i ∈ taken
      · obtain ⟨v, hv, -⟩ := (moved.mem_bandTaken value i).1 listed
        rw [moved.retireAll_record_of_mem .banded taken i v listed hv] at hw
        cases hw
      · rw [moved.retireAll_record_of_notMem .banded taken i listed] at hw
        by_contra inside
        exact listed ((moved.mem_bandTaken value i).2 ⟨w, hw, other, Nat.lt_of_not_le inside⟩)
    · rw [State.retireAll_queue] at he
      have le : value ≤ s.band.effective := BandControl.effective_of_some pending ▸ le_max_right _ _
      exact (Nat.mul_le_mul_left 64 le).trans (h.waiters e he other)
  exact retired.of_keepsBand (State.KeepsBand.refl _).grantScan

/-- The value written is the pending band unless a newer one is due (R142). -/
theorem bandProgrammed (h : s.BandSound) (store : s.SlotSound) : s.bandProgrammed.BandSound := by
  unfold State.bandProgrammed
  split
  · next value programming =>
    have lawful := store.engine
    rw [programming] at lawful
    obtain ⟨-, -, newest⟩ := of_decide_eq_true lawful
    have written : (s.setBand { s.band with cell := .valid value }).BandSound := ⟨h.windows, h.waiters⟩
    simp only []
    split
    · exact written.endOperation
    · next current => exact (written.commitBand (newest (Bool.eq_false_iff.2 current))).endOperation
  all_goals exact h

/-! ### Starts and the start-up read (R147, R149, R150) -/

theorem assertReset (h : s.BandSound) : s.assertReset.BandSound := by
  simp only [State.assertReset]
  split
  · exact beginStart _ _ _
  · exact h.of_keepsBand (.setPins (.refl s) _)

/-- When the band cell is read the table and the queue are still empty (R147, R149). -/
theorem readBandCell (h : s.BandSound) (store : s.SlotSound) (time : s.TimeSound) (supply : s.pins.supply = true) :
    s.readBandCell.BandSound := by
  unfold State.readBandCell
  split
  · next reading =>
    have start := store.inStart_of_reading time reading
    rw [reading] at start
    have empty : ∀ c e, s.ClearOf c e := fun c e => by
      refine ⟨fun i w hw => ?_, fun x hx => ?_⟩
      · have free := ((start.unread supply).records i (Nat.zero_le _)).1
        rw [Option.mem_def, WindowRecord.window_eq_some, free] at hw
        cases hw
      · rw [start.queue] at hx
        cases hx
    split
    · exact ⟨(empty _ 0).windows, (empty 0 _).waiters⟩
    · exact ⟨(empty _ 0).windows, (empty 0 _).waiters⟩
  all_goals exact h

/-- A restored window is one of master 0 or clear of the committed band (R150). -/
theorem restoreSlot (h : s.BandSound) (k : SlotIdx) : (s.restoreSlot k).BandSound := by
  have rejected : (s.reportRejected k).BandSound := ⟨h.windows, h.waiters⟩
  unfold State.restoreSlot
  split
  · exact h
  · exact ⟨h.windows, h.waiters⟩
  · split
    · exact rejected
    · next w _ =>
      split
      · next accepted =>
        obtain ⟨-, clear⟩ := (s.accepts_iff w).1 accepted
        unfold State.restoreWindow
        split
        · exact h
        · refine ⟨fun j v hv other => ?_, fun e he => h.waiters e (by simpa using he)⟩
          rw [State.setSlot_record, State.issue_record] at hv
          split at hv
          · obtain rfl := Option.some.inj hv
            exact clear other
          · exact h.windows j v hv other
      · exact rejected

theorem readSlot (h : s.BandSound) (maint : Bool) : (s.readSlot maint).BandSound := by
  unfold State.readSlot
  split
  · next k _ =>
    have decided : ((s.setPins { s.pins with maint := maint }).restoreSlot k).BandSound :=
      (h.of_keepsBand (.setPins (.refl s) _)).restoreSlot k
    simp only []
    split
    · exact decided.setEngine _
    · exact decided.of_keepsBand (.endStarting (.refl _))
  all_goals exact h

end State.BandSound

/-! ### Every step -/

/-- Every command keeps the band law; a commit goes on the value written being the pending band, and the read of the
band cell on what the start left. -/
theorem exec_bandSound (c : Instr) {s t : State} (h : s.BandSound) (store : s.SlotSound) (time : s.TimeSound)
    (hn : exec c s = .next t) : t.BandSound := by
  have same := State.KeepsBand.refl s
  cases hr : requestParts c with
  | some parts =>
    rw [exec_request c s (by simp [hr])] at hn
    exact whenPowered_keeps h (fun _ => h.takeRequest c) hn
  | none =>
    cases c with
    | frameEnd link ldi => exact Host.Outcome.next.inj hn ▸ h.riseLsel link ldi
    | checkStrobe cmas cadr cspan cwr =>
      exact whenPowered_keeps (f := (·.strobe ⟨cmas, cadr, cspan, cwr⟩)) h
        (fun _ => h.of_keepsBand (same.strobe _)) hn
    | checkRelease => exact whenPowered_keeps h (fun _ => h.of_keepsBand same.releaseStrobe) hn
    | tick => exact whenPowered_keeps h (fun _ => h.of_keepsBand (same.of_frame (by simp))) hn
    | lapse m => exact whenPowered_keeps h (fun _ => h.of_keepsBand (same.lapse m)) hn
    | leaseExpiry i => exact whenPowered_keeps h (fun _ => h.of_keepsBand (same.expireLease i)) hn
    | leaselowWarning i =>
      exact whenPowered_keeps (f := (·.warnLease i)) h (fun _ => h.of_keepsBand (same.warnLease i)) hn
    | drainEnd i =>
      exact whenPowered_keeps (f := (·.endDrain i)) h (fun _ => h.of_keepsBand (same.endDrain i)) hn
    | waitExpiry m ticket => exact whenPowered_keeps h (fun _ => h.of_keepsBand (same.expireWait m ticket)) hn
    | slotEraseDone => exact whenPowered_keeps h (fun _ => h.of_keepsBand same.slotErased) hn
    | slotProgramDone => exact whenPowered_keeps h (fun _ => h.of_keepsBand same.slotProgrammed) hn
    | clearDone => exact whenPowered_keeps h (fun _ => h.of_keepsBand same.slotCleared) hn
    | bandEraseDone => exact whenPowered_keeps h (fun _ => h.of_keepsBand same.bandErased) hn
    | bandProgramDone => exact whenPowered_keeps h (fun _ => h.bandProgrammed store) hn
    | bandCellRead => exact whenPowered_keeps h (fun supply => h.readBandCell store time supply) hn
    | slotRead maint => exact whenPowered_keeps (f := (·.readSlot maint)) h (fun _ => h.readSlot maint) hn
    | powerStart =>
      exact Host.Outcome.next.inj hn ▸ (State.BandSound.beginStart s .power true).of_keepsBand (.setPins (.refl _) _)
    | powerOnHoldEnd => exact whenPowered_keeps h (fun _ => h.of_keepsBand same.endHold) hn
    | lineStart => exact Host.Outcome.next.inj hn ▸ h.assertReset
    | resetRelease => exact Host.Outcome.next.inj hn ▸ h.of_keepsBand same.releaseReset
    | supplyLoss => exact whenPowered_keeps h (fun _ => h.of_keepsBand same.loseSupply) hn
    | lselFall link => exact Host.Outcome.next.inj hn ▸ h.of_keepsBand (same.fallLsel link)
    | lossOfRetention slot image =>
      exact Host.Outcome.next.inj hn ▸ h.of_keepsBand (same.of_frame (by simp))
    | _ => cases hr

/-- Every step keeps the band law. -/
theorem step_bandSound {s t : State} (h : s.safe) (hn : step s = .next t) : t.BandSound := by
  rcases step_cases hn with rfl | ⟨c, rest, hc⟩
  · exact State.safe.bandSound h
  · have lawful := State.safe.with_pending h rest
    exact exec_bandSound c (State.safe.bandSound lawful) (State.safe.slotSound lawful)
      (State.safe.timeSound lawful).1 hc

end Sys2Proof.Machine

open Sys2Proof Sys2Proof.Machine

/-- Settles O54: a claim is tested against the effective claim band, a widening removes the waiters it reaches, and a
commit retires the windows it reaches, while every other operation claims nothing new. -/
theorem bandLawKept : Obligations.BandLawKept := fun _ _ h hn => State.bandLaw_iff.2 (step_bandSound h hn)

end

section
/-! PROOFS. BAND by the mode and the value (R139 to R141), the phases of a band-cell write and the commit (R142, R143),
and the beginning of the start-up read (R147, R149). -/

namespace Sys2Proof.Machine

/-! ### BAND, test by test (R139) -/

/-- BAND goes on to its own tests for master 0 (R82, R139). -/
theorem exec_band {s : State} (value grace : Word) (ho : s.takesOpen 0) : exec (.band 0 value grace) s = .next
    ((bandAnswer value.toNat grace.toNat (s.renewSession 0)).reply 0 0x44) := by
  refine (whenPowered_next _ s ho.1.1).trans ?_
  rw [takeBand, serve_gated _ _ (·.supervisorGate 0) _ _ (renewed_supervisorGate ho)]

section
variable {s : State} {value grace : Nat}

theorem bandAnswer_badOperand (s : State) (bad : 64 < value ∨ 60000 < grace) :
    bandAnswer value grace s = s.refuse .badOperand := if_pos bad

variable (range : value ≤ 64) (short : grace ≤ 60000)
include range short

theorem bandAnswer_inRange (s : State) : bandAnswer value grace s = bandValueAnswer value grace s :=
  if_neg (not_or.2 ⟨Nat.not_lt.2 range, Nat.not_lt.2 short⟩)

/-- A value over the effective claim band is the widening's, in either mode (R139). -/
theorem bandAnswer_wider (wider : s.band.effective < value) : bandAnswer value grace s =
    (((s.setPendingBand value).widen value grace).kickEngine).ok
      [word (s.setPendingBand value).band.effective, word (s.bandTaken value).length,
        word (s.queue.countP (bandTakesWaiter value))] := by
  rw [bandAnswer_inRange range short, bandValueAnswer, if_pos wider, List.countP_eq_length_filter]
  rfl

variable (narrower : value ≤ s.band.effective)
include narrower

theorem bandAnswer_maintenance (maintenance : s.mode = .maintenance) : bandAnswer value grace s =
    ((s.setPendingBand value).kickEngine).ok [word (s.setPendingBand value).band.effective, word 0, word 0] := by
  rw [bandAnswer_inRange range short, bandValueAnswer, if_neg (Nat.not_lt.2 narrower), if_pos maintenance]

theorem bandAnswer_running (running : s.mode = .running) : bandAnswer value grace s =
    if value = s.band.effective then s.ok [word s.band.effective, word 0, word 0] else s.refuse .narrow := by
  rw [bandAnswer_inRange range short, bandValueAnswer, if_neg (Nat.not_lt.2 narrower), if_neg (by simp [running])]

end

/-- The windows a widening reaches, counted (R140). -/
theorem State.length_bandTaken (s : State) (value : Nat) : (s.bandTaken value).length =
    (List.finRange 64).countP fun i => (s.record i).window.any fun w =>
      decide (w.owner ≠ 0) && decide (w.base < 64 * value) := s.length_recordsWhere _

theorem word_toNat (w : Word) : word w.toNat = w := by simp [word]

/-! ### The phases of a band-cell write (R142, R143) -/

section
variable {s : State} {value : Nat}

theorem State.bandErased_erasing (erasing : s.engine = .erasingBand value) :
    s.bandErased = s.setEngine (.programmingBand value) := by
  rw [State.bandErased, erasing]

theorem State.bandProgrammed_due (programming : s.engine = .programmingBand value) (due : s.band.writeDue = true) :
    s.bandProgrammed = (s.setBand { s.band with cell := .valid value }).endOperation := by
  rw [State.bandProgrammed, programming]
  exact if_pos due

theorem State.bandProgrammed_commits (programming : s.engine = .programmingBand value)
    (current : s.band.writeDue = false) :
    s.bandProgrammed = ((s.setBand { s.band with cell := .valid value }).commitBand value).endOperation := by
  rw [State.bandProgrammed, programming]
  exact if_neg (by simp [current])

end

/-! ### The beginning of the start-up read (R147, R149) -/

section
variable {s : State}

theorem State.endHold_released (hold : s.startUp.hold = true) (released : s.pins.reset = false) :
    s.endHold = (s.setStartUp { s.startUp with hold := false }).setEngine (.reading .band) := by
  rw [State.endHold, if_pos hold]
  exact if_neg (by simp [released])

theorem State.endHold_asserted (hold : s.startUp.hold = true) (asserted : s.pins.reset = true) :
    s.endHold = s.setStartUp { s.startUp with hold := false } := by
  rw [State.endHold, if_pos hold]
  exact if_pos asserted

theorem State.releaseReset_holding (hold : s.startUp.hold = true) :
    s.releaseReset = s.setPins { s.pins with reset := false } :=
  if_neg fun ⟨_, _, _, ended, _⟩ => by simp [hold] at ended

theorem State.releaseReset_begins (supply : s.pins.supply = true) (asserted : s.pins.reset = true)
    (starting : s.mode = .starting) (ended : s.startUp.hold = false) (idle : s.engine = .idle) :
    s.releaseReset = (s.setPins { s.pins with reset := false }).setEngine (.reading .band) :=
  if_pos ⟨supply, asserted, starting, ended, idle⟩

variable (reading : s.engine = .reading .band)
include reading

theorem State.readBandCell_valid {b : Nat} (valid : s.band.cell = .valid b) : s.readBandCell =
    (s.setBand { s.band with committed := b, pending := none, writeDue := false }).setEngine (.reading (.slot 0)) := by
  rw [State.readBandCell, reading, valid]

theorem State.readBandCell_damaged (damaged : s.band.cell = .damaged) : s.readBandCell =
    ((s.setBand { s.band with committed := 64, pending := some 64, writeDue := true }).setStartUp
      { s.startUp with bandDamaged := true }).setEngine (.reading (.slot 0)) := by
  rw [State.readBandCell, reading, damaged]

end

end Sys2Proof.Machine

open Sys2Proof Sys2Proof.Machine

/-- Settles O30: the operands' ranges decide BAD_OPERAND, then the value against the effective claim band, which the
renewal of master 0's session leaves, and the mode. -/
theorem bandRequest : Obligations.BandRequest := by
  intro value grace s ho v request pending
  have answer := exec_band value grace ho
  have band : (s.renewSession 0).band = s.band := s.renewSession_band 0
  have mode : (s.renewSession 0).mode = s.mode := s.renewSession_mode 0
  have renewed : (s.renewSession 0).setPendingBand v = pending := by rw [State.setPendingBand, band]
  have effective : pending.band.effective = max s.band.committed v := BandControl.effective_of_some rfl
  refine ⟨fun bad => ?badOperand, fun range short => ⟨fun running below => ?narrow, fun running same => ?same,
    fun maintenance narrower => ?maintenance, fun wider => ?wider⟩⟩
  case badOperand =>
    rw [bandAnswer_badOperand _ bad] at answer
    exact answer
  case narrow =>
    rw [bandAnswer_running range short (band ▸ below.le) (mode.trans running), band, if_neg below.ne] at answer
    exact answer
  case same =>
    rw [bandAnswer_running range short (band ▸ same.le) (mode.trans running), band, if_pos same, ← same,
      word_toNat] at answer
    exact answer
  case maintenance =>
    rw [bandAnswer_maintenance range short (band ▸ narrower) (mode.trans maintenance), renewed, effective] at answer
    exact answer
  case wider =>
    have value_eq : pending.band.effective = v :=
      effective.trans (max_eq_right (s.band.committed_le_effective.trans wider.le))
    rw [bandAnswer_wider range short (band ▸ wider), renewed, value_eq, word_toNat, State.length_bandTaken] at answer
    simp only [State.renewSession_record, State.renewSession_queue] at answer
    exact answer

/-- Settles O44: the commit is the retire of the windows the value reaches and one grant scan, between the cell's write
and the engine's choice. -/
theorem bandPhases : Obligations.BandPhases := by
  refine fun s v supply => ⟨fun erasing => ?_, fun programming => ⟨fun due => ?_, fun current => ?_⟩⟩
  · exact (whenPowered_next _ s supply).trans (by rw [State.bandErased_erasing erasing])
  · exact (whenPowered_next _ s supply).trans (by rw [State.bandProgrammed_due programming due, State.endOperation])
  · exact (whenPowered_next _ s supply).trans (by rw [State.bandProgrammed_commits programming current]; rfl)

/-- Settles O46, from the cases of the events that can begin the start-up read and of the read of the band cell. -/
theorem startUpReadBegins : Obligations.StartUpReadBegins := by
  refine fun s supply => ⟨fun hold released => ?_, fun hold asserted => ?_, fun hold => ?_,
    fun starting ended idle asserted => ?_, fun reading => ⟨fun b valid => ?_, fun damaged => ?_⟩⟩
  · exact (whenPowered_next _ s supply).trans (by rw [State.endHold_released hold released])
  · exact (whenPowered_next _ s supply).trans (by rw [State.endHold_asserted hold asserted])
  · exact congrArg Host.Outcome.next (State.releaseReset_holding hold)
  · exact congrArg Host.Outcome.next (State.releaseReset_begins supply asserted starting ended idle)
  · exact (whenPowered_next _ s supply).trans (by rw [State.readBandCell_valid reading valid])
  · exact (whenPowered_next _ s supply).trans (by rw [State.readBandCell_damaged reading damaged])

end

section
/-! PROOFS. The state right after reset as a POWER start on itself, and the laws it keeps (R123, R137, R147), and the
read of the slots before slot 11 (R149, R150, R153). -/

namespace Sys2Proof.Machine

/-! ### The state right after reset (R147) -/

/-- The state right after reset is what a POWER start with the supply up makes of it: its cells are those of a part
never written, and every volatile record already holds its start value. -/
theorem State.beginStart_reset : State.reset.beginStart .power true = State.reset := by
  simp [State.beginStart, State.breakPhase, State.reset, Link.atStart, Slot.atStart, StartUp.begin]

@[simp] theorem State.reset_record (i : RecIdx) : State.reset.record i = ⟨0, .free none⟩ := by
  rw [← State.beginStart_reset, State.beginStart_record]

@[simp] theorem State.reset_watch (k : WatchIdx) : State.reset.watch k = .free := by
  rw [← State.beginStart_reset, State.beginStart_watch]

/-- An empty table, with the band cell of a part never written. -/
theorem State.reset_tableSound : State.reset.TableSound where
  conflict := fun i j _ v hv => by simp at hv
  windows := fun i w hw => by simp at hw
  waiters := nofun
  watches := fun k w hw => by simp [WatchRecord.watch] at hw
  watchCount := by decide
  failures := by decide
  sessions := by decide
  committed := Nat.zero_le _
  pending := nofun
  tally := by decide

/-- No binding and no mark, and nothing due for the band cell. -/
theorem State.reset_storeSound : State.reset.StoreSound where
  bindings := by decide
  due := nofun
  pending := nofun
  cell := by decide

/-! ### The read of a slot with another to follow (R149) -/

/-- The read of a slot before slot 11 decides it and goes on to the next. -/
theorem exec_slotRead_next {s : State} {k next : SlotIdx} (supply : s.pins.supply = true)
    (reading : s.engine = .reading (.slot k)) (follows : next.val = k.val + 1) (maint : Bool) :
    exec (.slotRead maint) s =
      .next (((s.setPins { s.pins with maint := maint }).restoreSlot k).setEngine (.reading (.slot next))) := by
  have more : k.val + 1 < 12 := follows ▸ next.isLt
  have following : (⟨k.val + 1, more⟩ : SlotIdx) = next := Fin.ext follows.symm
  refine (whenPowered_next (·.readSlot maint) s supply).trans ?_
  simp only [State.readSlot, reading, dif_pos more, following]

end Sys2Proof.Machine

open Sys2Proof Sys2Proof.Machine

/-- Settles O52: reset is a POWER start on itself, and a start leaves a state that keeps the laws. -/
theorem resetKeepsLaws : Obligations.ResetKeepsLaws := by
  have table := State.reset_tableSound
  have queue := State.QueueSound.beginStart State.reset .power true
  have band := State.BandSound.beginStart State.reset .power true
  have port := State.PortSound.beginStart State.reset .power true State.reset.pins
  have time := State.InStart.beginStart State.reset .power true State.reset.pins fun _ => rfl
  rw [State.beginStart_reset] at queue band port time
  obtain ⟨bindings, engine⟩ : State.reset.bindingLaw ∧ State.reset.engineLaw :=
    State.SlotSound.laws ⟨State.reset_storeSound, Engine.lawful_idle_starting rfl⟩
  obtain ⟨notices, ports⟩ : State.reset.noticeLaw ∧ State.reset.portLaw := port.laws
  obtain ⟨deadlines, start⟩ : State.reset.deadlineLaw ∧ State.reset.startLaw := State.TimeSound.laws (.inl time)
  exact ⟨table.conflict, table.rangeLaw, table.tally, queue.queue, queue.waits, queue.owners, bindings, engine,
    State.bandLaw_iff.2 band, notices, deadlines, ports, start⟩

/-- Settles O47: the read decides the slot by its content in one of the four ways, on the state that has seen MAINT. -/
theorem slotRestore : Obligations.SlotRestore := by
  intro s k next maint supply reading follows seen marked answers
  have decides : ∀ u, seen.restoreSlot k = u → answers u := fun u restored =>
    restored ▸ exec_slotRead_next supply reading follows maint
  refine ⟨fun blank => ?blank, fun damaged => ?damaged, ?valid⟩
  case blank => exact decides _ (State.restoreSlot_blank blank)
  case damaged => exact decides _ (State.restoreSlot_damaged damaged)
  case valid =>
    intro x valid inRange clear
    have accepts : ∀ m mode, seen.accepts (restoredWindow x k m mode) = true ↔ clear m mode := fun m mode =>
      seen.accepts_iff _
    refine ⟨fun m mode i stands free lowest => ?accepted, fun refused => ?rejected⟩
    case accepted =>
      exact decides _ (State.restoreSlot_accepted (s := seen) valid stands ((accepts m mode).2 free) lowest)
    case rejected =>
      exact decides _ (State.restoreSlot_rejected valid fun m mode stands =>
        refused m mode stands ∘ (accepts m mode).1)

end

section
/-! PROOFS. PURGE (R155) and STATUS with the layout of its reply (R156, section 11.4). -/

namespace Sys2Proof.Machine

/-! ### PURGE, test by test (R155) -/

/-- PURGE goes on to its own tests for master 0 (R82, R155). -/
theorem exec_purge {s : State} (slot : Word) (ho : s.takesOpen 0) : exec (.purge 0 slot) s = .next
    ((purgeAnswer slot (s.renewSession 0)).reply 0 0x45) := by
  refine (whenPowered_next _ s ho.1.1).trans ?_
  rw [takePurge, serve_gated _ _ (·.supervisorGate 0) _ _ (renewed_supervisorGate ho)]

theorem purgeAnswer_badOperand {slot : Word} (s : State) (high : 12 ≤ slot.toNat) :
    purgeAnswer slot s = s.refuse .badOperand := by
  rw [purgeAnswer, slotOf_eq_none slot high]

section
variable {s : State} {slot : Word} {k : SlotIdx} (names : slot.toNat = k.val)
include names

theorem purgeAnswer_running (running : s.mode = .running) : purgeAnswer slot s = s.refuse .notMaint := by
  rw [purgeAnswer, slotOf_eq_some slot k names]
  exact if_neg (by simp [running])

theorem purgeAnswer_maintenance (maintenance : s.mode = .maintenance) : purgeAnswer slot s = purgeSlot k s := by
  rw [purgeAnswer, slotOf_eq_some slot k names]
  exact if_pos maintenance

end

/-! ### The purge of a slot -/

section
variable {s : State} {k : SlotIdx}

/-- A slot that is BLANK, unmarked and idle once its window is gone is left as it is, with the result NONE. -/
theorem purgeSlot_untouched {u : State} (purged : s.purgeWindow (s.slot k).binding = u)
    (untouched : (u.slot k).untouched (u.engine.workOn k) = true) :
    purgeSlot k s = u.kickEngine.ok [word ((s.slot k).binding.elim 64 Fin.val), 0] := by
  have kept : u.changeSlot k Slot.markPurged = u := by
    rw [State.changeSlot, Slot.markPurged, if_pos untouched, u.setSlot_slot_self k]
  simp only [purgeSlot, purged, kept, if_pos untouched]
  rfl

/-- Any other slot is marked CLEAR_DUE. -/
theorem purgeSlot_touched {u : State} (purged : s.purgeWindow (s.slot k).binding = u)
    (touched : ¬ (u.slot k).untouched (u.engine.workOn k) = true) :
    purgeSlot k s = (u.setSlot k { u.slot k with mark := .clearDue }).kickEngine.ok
      [word ((s.slot k).binding.elim 64 Fin.val), 2] := by
  have marked : u.changeSlot k Slot.markPurged = u.setSlot k { u.slot k with mark := .clearDue } := by
    rw [State.changeSlot, Slot.markPurged, if_neg touched]
  simp only [purgeSlot, purged, marked, if_neg touched]
  rfl

end

/-! ### STATUS past the test it makes (R156) -/

/-- STATUS is answered outside STARTING, in every session state. -/
theorem exec_status {s : State} {m : Master} (supply : s.pins.supply = true) (running : s.mode ≠ .starting) :
    exec (.status m) s = .next (((s.renewSession m).ok (s.renewSession m).statusWords).reply m 0x02) := by
  refine (whenPowered_next _ s supply).trans ?_
  rw [takeStatus, serve_gated _ _ (·.readyGate) _ _ (renewed_readyGate running)]

/-- The report holds nothing of the sessions. -/
theorem State.renewSession_statusWords (s : State) (m : Master) : (s.renewSession m).statusWords = s.statusWords := by
  simp [State.statusWords, State.freeCount]

/-! ### The layout of the status reply (section 11.4) -/

theorem Engine.stateCode_lt (e : Engine) : e.stateCode < 4 := by
  unfold Engine.stateCode
  split <;> omega

theorem StartCause.code_lt (c : StartCause) : c.code < 4 := by cases c <;> decide

theorem PartMode.code_lt (mode : PartMode) : mode.code < 4 := by cases mode <;> decide

theorem State.freeCount_le (s : State) : s.freeCount ≤ 64 :=
  (List.length_filter_le _ _).trans_eq List.length_finRange

theorem PartMode.code_running {mode : PartMode} (running : mode ≠ .starting) :
    mode.code = if mode = .maintenance then 2 else 1 := by
  cases mode with
  | starting => exact absurd rfl running
  | running => rfl
  | maintenance => rfl

/-- The first word: the engine's target and state, BAND_DAMAGED, the flag, the reset cause and the part mode. -/
theorem status_partWord (target state cause mode : Nat) (bandDamaged flag : Bool) (hs : state < 4)
    (hc : cause < 4) (hm : mode < 4) :
    word (4096 * target + 256 * state + 32 * bandDamaged.toNat + 16 * flag.toNat + 4 * cause + mode) =
      BitVec.ofNat 4 target ++ 0#2 ++ BitVec.ofNat 2 state ++ 0#2 ++ BitVec.ofBool bandDamaged ++
        BitVec.ofBool flag ++ BitVec.ofNat 2 cause ++ BitVec.ofNat 2 mode := by
  apply BitVec.eq_of_toNat_eq
  have := bandDamaged.toNat_lt
  have := flag.toNat_lt
  simp only [word, toNat_fields, toNat_ofBool_field, BitVec.toNat_ofNat]
  omega

/-- The fourth word: the pending and the committed band. -/
theorem status_bandWord (pending committed : Nat) (hp : pending < 128) (hc : committed < 128) :
    word (256 * pending + committed) = 0#1 ++ BitVec.ofNat 7 pending ++ 0#1 ++ BitVec.ofNat 7 committed := by
  apply BitVec.eq_of_toNat_eq
  simp only [word, toNat_fields, BitVec.toNat_ofNat]
  omega

/-- The fifth word: the queue's length and the number of FREE records. -/
theorem status_countsWord (waiters free : Nat) (hw : waiters < 32) (hf : free < 128) :
    word (256 * waiters + free) = 0#3 ++ BitVec.ofNat 5 waiters ++ 0#1 ++ BitVec.ofNat 7 free := by
  apply BitVec.eq_of_toNat_eq
  simp only [word, toNat_fields, BitVec.toNat_ofNat]
  omega

end Sys2Proof.Machine

open Sys2Proof Sys2Proof.Machine

/-- Settles O32: the operand and the mode decide the refusals, and in MAINTENANCE the slot is looked at once its window
is gone and the scan has run. -/
theorem purgeRequest : Obligations.PurgeRequest := by
  intro slot s ho
  have answer := exec_purge slot ho
  have mode : (s.renewSession 0).mode = s.mode := s.renewSession_mode 0
  refine ⟨fun high => ?badOperand, fun k names => ⟨fun running => ?notMaint,
    ?purged⟩⟩
  case badOperand =>
    rw [purgeAnswer_badOperand _ high] at answer
    exact answer
  case notMaint =>
    rw [purgeAnswer_running names (mode.trans running)] at answer
    exact answer
  case purged =>
    intro u maintenance unbound bound gone untouched
    have binding : ((s.renewSession 0).slot k).binding = (s.slot k).binding := by rw [State.renewSession_slot]
    have purged : (s.renewSession 0).purgeWindow ((s.renewSession 0).slot k).binding = u := by
      rw [binding]
      cases window : (s.slot k).binding with
      | none => exact (unbound window).symm
      | some i => exact (bound i window).symm
    have decided := (u.slot k).untouched_iff (u.engine.workOn k)
    rw [purgeAnswer_maintenance names (mode.trans maintenance)] at answer
    refine ⟨fun clean => ?_, fun dirty => ?_⟩
    · rw [purgeSlot_untouched purged (decided.2 clean), binding] at answer
      exact answer
    · rw [purgeSlot_touched purged (mt decided.1 dirty), binding] at answer
      exact answer

/-- Settles O49: past its one test STATUS reports the state as it is, each word field by field, with the codes of the
engine for its target and state. -/
theorem statusReply : Obligations.StatusReply := by
  intro m s supply running committed pending waiters
  refine ⟨s.engine.targetCode, s.engine.stateCode, ?words, fun idle => ?idle, fun k erasing => ?slotErase,
    fun k x i programming => ?slotProgram, fun v erasing => ?bandErase, fun v programming => ?bandProgram⟩
  case words =>
    have pendingCode : s.band.pending.getD 127 < 128 := by
      cases value : s.band.pending with
      | none => decide
      | some v => exact Nat.lt_succ_of_le ((pending v value).trans (by decide))
    have answer := exec_status (m := m) supply running
    rw [s.renewSession_statusWords m, State.statusWords,
      status_partWord _ _ _ _ _ _ s.engine.stateCode_lt s.startUp.cause.code_lt s.mode.code_lt,
      PartMode.code_running running, status_bandWord _ _ pendingCode (by omega),
      status_countsWord _ _ (by omega) (by have := s.freeCount_le; omega)] at answer
    exact answer
  case idle => exact idle ▸ ⟨rfl, rfl⟩
  case slotErase =>
    obtain ⟨x, i, write⟩ | clear := erasing
    · exact write ▸ ⟨rfl, rfl⟩
    · exact clear ▸ ⟨rfl, rfl⟩
  case slotProgram => exact programming ▸ ⟨rfl, rfl⟩
  case bandErase => exact erasing ▸ ⟨rfl, rfl⟩
  case bandProgram => exact programming ▸ ⟨rfl, rfl⟩

end

section
/-! PROOFS. The frame that carries a request: its words pass the tests of R161, and the handover reads the request back
from them (R158, R161, R162, sections 11.2 and 11.4). -/

namespace Sys2Proof.Machine

/-! ### The code list -/

/-- The code and the operands of a request name it (section 11.4). -/
theorem requestOf_requestParts {i : Instr} {m : Master} {code : Nat} {ops : List Word}
    (hp : requestParts i = some (m, code, ops)) : requestOf m code ops = some i := by
  cases i with cases hp
  | _ => rfl

/-- A request has a code of the list, and as many operands as the list gives the code (section 11.4). -/
theorem requestParts_listed {i : Instr} {m : Master} {code : Nat} {ops : List Word}
    (hp : requestParts i = some (m, code, ops)) : (code, ops.length) ∈ commandList := by
  cases i with cases hp
  | _ => exact List.mem_of_elem_eq_true rfl

/-- The codes of the list fit the upper byte of a command word, and no command has an overlong frame (R161). -/
theorem commandList_bounds : ∀ p ∈ commandList, p.1 < 256 ∧ p.2 ≤ 8 := by decide

theorem requestParts_bounds {i : Instr} {m : Master} {code : Nat} {ops : List Word}
    (hp : requestParts i = some (m, code, ops)) : code < 256 ∧ ops.length ≤ 8 :=
  commandList_bounds _ (requestParts_listed hp)

/-! ### The command word -/

/-- The command word of a code and its operands (section 11.2). -/
def commandWord (code : Nat) (ops : List Word) : Word := word (256 * code + ops.length)

section
variable {code : Nat} {ops : List Word}

theorem frameWords_eq : frameWords code ops =
    commandWord code ops :: ops ++ [checkWord (commandWord code ops :: ops)] := rfl

/-- The fields of a command word: the code in bits 15 to 8, 0 in bits 7 to 4, the operand count in bits 3 to 0. -/
theorem commandWord_fields (hcode : code < 256) (hops : ops.length ≤ 8) :
    (commandWord code ops).toNat / 256 = code ∧ (commandWord code ops).toNat / 16 % 16 = 0 ∧
      (commandWord code ops).toNat % 16 = ops.length := by
  have value : (commandWord code ops).toNat = 256 * code + ops.length := by
    rw [commandWord, word, BitVec.toNat_ofNat, Nat.mod_eq_of_lt (by omega)]
  omega

/-- A command word with a request's code and operands hands the request over (R161). -/
theorem handover_request {i : Instr} {m : Master} (hp : requestParts i = some (m, code, ops)) :
    handover m (commandWord code ops) ops = .request i := by
  obtain ⟨hcode, hops⟩ := requestParts_bounds hp
  obtain ⟨upper, spare, -⟩ := commandWord_fields hcode hops
  have known : code ∈ commandCodes := List.mem_map_of_mem (f := Prod.fst) (requestParts_listed hp)
  simp only [handover]
  rw [commandWord_code, upper, if_neg (not_not.2 known), if_neg (not_not.2 ((commandWord_spare _).2 spare)),
    requestOf_requestParts hp]

/-! ### The words of the frame -/

section
variable (later : List Word)

/-- The frame's words before its check word are the command word and the operands. -/
theorem frameWords_take :
    (frameWords code ops ++ later).take (ops.length + 1) = commandWord code ops :: ops := by
  rw [frameWords_eq, List.append_assoc]
  exact List.take_left' rfl

/-- The check word follows the operands (section 11.2). -/
theorem frameWords_check :
    (frameWords code ops ++ later)[ops.length + 1]? = some (checkWord (commandWord code ops :: ops)) := by
  rw [frameWords_eq, List.append_assoc, List.getElem?_append_right (Nat.le_of_eq (List.length_cons ..))]
  simp

theorem frameWords_length : (frameWords code ops).length = ops.length + 2 := by
  simp [frameWords_eq]

/-- What follows the check word are the read words. -/
theorem frameWords_drop : (frameWords code ops ++ later).drop (ops.length + 2) = later :=
  List.drop_left' frameWords_length

end

/-- No word after the ten stored is other than 0x0000: those words come after the check word. -/
theorem frameWords_late (hops : ops.length ≤ 8) (n : Nat) :
    decide (∃ w ∈ (frameWords code ops ++ List.replicate n 0).drop 10, w ≠ 0) = false := by
  refine decide_eq_false fun ⟨w, hw, nonzero⟩ => ?_
  have read : w ∈ (frameWords code ops ++ List.replicate n 0).drop (ops.length + 2) :=
    List.drop_subset_drop_left _ (by omega) hw
  rw [frameWords_drop] at read
  exact nonzero (List.eq_of_mem_replicate read)

/-- A frame of at most eight operands and any number of read words of 0x0000 is well formed (R161). -/
theorem frameWords_not_malformed (hops : ops.length ≤ 8) (n : Nat) :
    ¬ FrameMalformed (frameWords code ops ++ List.replicate n 0) ops.length := by
  rintro (overlong | short | check | ⟨w, hw, nonzero⟩)
  · omega
  · rw [List.length_append, frameWords_length] at short
    omega
  · exact check (by rw [frameWords_check, frameWords_take])
  · rw [frameWords_drop] at hw
    exact nonzero (List.eq_of_mem_replicate hw)

end

/-! ### The tests on a request's frame -/

/-- The tests of R161 on the stored words of a request's frame give the request. -/
theorem checkFrame_request {i : Instr} {m : Master} {code : Nat} {ops : List Word}
    (hp : requestParts i = some (m, code, ops)) (n : Nat) :
    checkFrame m ((frameWords code ops ++ List.replicate n 0).take 10)
      (frameWords code ops ++ List.replicate n 0).length
      (decide (∃ w ∈ (frameWords code ops ++ List.replicate n 0).drop 10, w ≠ 0)) = .request i := by
  obtain ⟨hcode, hops⟩ := requestParts_bounds hp
  obtain ⟨-, -, count⟩ := commandWord_fields hcode hops
  have wellFormed := frameWords_not_malformed (code := code) hops n
  have operands := frameWords_take (code := code) (ops := ops) (List.replicate n 0)
  rw [frameWords_eq, List.append_assoc, List.cons_append] at wellFormed operands ⊢
  rw [← count] at wellFormed operands
  rw [checkFrame_wellFormed m _ _ wellFormed, operands]
  exact handover_request hp

/-- The bits of words and fewer than sixteen more are read back as the words (R158). -/
theorem wordsOfBits_words (ws : List Word) {tail : List Bool} (h : tail.length < 16) :
    wordsOfBits (ws.flatMap wordBits ++ tail) = ws := by
  rw [wordsOfBits_flatMap, wordsOfBits_short tail h, List.append_nil]

end Sys2Proof.Machine

open Sys2Proof Sys2Proof.Machine

/-- Settles O9: the words come back from their bits, and they pass the tests of R161 with the request's operands. -/
theorem frameRoundTrip : Obligations.FrameRoundTrip := by
  intro i m code ops n hp
  have late := frameWords_late (code := code) (requestParts_bounds hp).2 n
  have request := checkFrame_request hp n
  rw [late, List.length_append, frameWords_length, List.length_replicate] at request
  refine ⟨?bits, ?tests⟩
  case bits =>
    have read := wordsOfBits_words (frameWords code ops ++ List.replicate n 0) (tail := []) (by decide)
    rwa [List.append_nil] at read
  case tests =>
    have unstored : ((frameWords code ops ++ List.replicate n 0).drop 10).any (fun w => w != 0) = false := by
      simpa using late
    rw [unstored]
    exact request

/-- Settles O10: the frame's words are those of the bits, the tests on them give the request, and the owning block
takes it on the link as the frame left it. -/
theorem frameEndTakesRequest : Obligations.FrameEndTakesRequest := by
  intro i s m code ops n tail ignored hp supplied receiving short words bits ended
  have left : s.setLink m ((s.link m).afterFrame bits words) = ended := by
    have count : words.length = ops.length + 2 + n := by
      rw [List.length_append, frameWords_length, List.length_replicate]
    rw [Link.afterFrame, count, frameWords_late (requestParts_bounds hp).2 n]
  have frame : exec (.frameEnd m ⟨bits, ignored⟩) s = .next (takeRequest i ended) := by
    have first : words = commandWord code ops :: (ops ++ [checkWord (commandWord code ops :: ops)] ++
      List.replicate n 0) := rfl
    have request : checkFrame m (words.take 10) words.length (decide (∃ w ∈ words.drop 10, w ≠ 0)) = .request i :=
      checkFrame_request hp n
    have ends := exec_frameEnd s m bits ignored supplied receiving ((wordsOfBits_words words short).trans first)
    rw [← first, request, left] at ends
    exact ends
  have row : exec i ended = .next (takeRequest i ended) := exec_eq_takeRequest hp supplied
  exact ⟨frame.trans row.symm, _, frame⟩

end

section
/-! PROOFS. The words that keep their encoding, field by field (R162, section 11.4), and the requests that do not. -/

namespace Sys2Proof.Machine

/-! ### Fields of operand words -/

/-- A field of a word holds a value, in numbers. -/
theorem field_eq_iff (w : Word) (start : Nat) {n : Nat} (v : BitVec n) :
    w.extractLsb' start n = v ↔ w.toNat / 2 ^ start % 2 ^ n = v.toNat := by
  rw [← BitVec.toNat_inj, BitVec.extractLsb'_toNat, Nat.shiftRight_eq_div_pow]

/-- A bit of a word is 0, in numbers. -/
theorem bit_eq_false_iff (w : Word) (k : Nat) : w.getLsbD k = false ↔ w.toNat / 2 ^ k % 2 = 0 := by
  rw [BitVec.getLsbD, Nat.testBit_eq_decide_div_mod_eq, decide_eq_false_iff_not]
  exact Nat.mod_two_ne_one

section
variable (w : Word)

theorem handleFormatOk_iff :
    handleFormatOk w = true ↔ w.getLsbD 7 = false ∧ w.getLsbD 6 = false ∧ 256 ≤ w.toNat := by
  have := w.isLt
  rw [handleFormatOk, handleGeneration, Bool.and_eq_true, beq_iff_eq, bne_iff_ne, ne_eq, field_eq_iff, field_eq_iff,
    bit_eq_false_iff, bit_eq_false_iff]
  simp only [BitVec.ofNat_eq_ofNat, BitVec.toNat_ofNat]
  omega

theorem ticketFormatOk_iff : ticketFormatOk w = true ↔ w ≠ 0 := bne_iff_ne

/-- A choice by cases has a value when one of its cases is met. -/
theorem ite_some_isSome_iff {α : Type} {p : Prop} [Decidable p] (a : α) (o : Option α) :
    (if p then some a else o).isSome = true ↔ p ∨ o.isSome = true := by
  split_ifs with h <;> simp [h]

/-- The mode code is READ or WRITE. -/
theorem optionsMode_isSome_iff : (optionsMode w).isSome = true ↔ w.toNat % 4 = 1 ∨ w.toNat % 4 = 2 := by
  rw [optionsMode, ite_some_isSome_iff, ite_some_isSome_iff, field_eq_iff, field_eq_iff]
  simp

/-- The wait code is NOWAIT or WAIT. -/
theorem optionsWait_isSome_iff : (optionsWait w).isSome = true ↔ w.toNat / 4 % 4 = 1 ∨ w.toNat / 4 % 4 = 2 := by
  rw [optionsWait, ite_some_isSome_iff, ite_some_isSome_iff, field_eq_iff, field_eq_iff]
  simp

theorem optionsFormatOk_iff :
    optionsFormatOk w = true ↔ (w.toNat % 4 = 1 ∨ w.toNat % 4 = 2) ∧ (w.toNat / 4 = 1 ∨ w.toNat / 4 = 2) := by
  have := w.isLt
  rw [optionsFormatOk, Bool.and_eq_true, Bool.and_eq_true, optionsMode_isSome_iff, optionsWait_isSome_iff, beq_iff_eq,
    field_eq_iff, and_assoc]
  refine and_congr_right fun _ => ?_
  simp only [BitVec.ofNat_eq_ofNat, BitVec.toNat_ofNat]
  omega

theorem kindsFormatOk_iff : kindsFormatOk w = true ↔ w = 1 ∨ w = 2 ∨ w = 3 := by
  rw [kindsFormatOk, kindsOf, ite_some_isSome_iff, ite_some_isSome_iff, ite_some_isSome_iff]
  simp

theorem maskFormatOk_iff : maskFormatOk w = true ↔ w.toNat < 4096 := by
  refine ⟨fun h => ?_, maskFormatOk_of_lt⟩
  have upper := (field_eq_iff w 12 0#4).1 (beq_iff_eq.1 h)
  have := w.isLt
  rw [BitVec.toNat_zero] at upper
  omega

theorem lineFormatOk_iff : lineFormatOk w = true ↔ w = 0 ∨ w = 1 := by
  rw [lineFormatOk, Bool.or_eq_true, beq_iff_eq, beq_iff_eq]

end

/-! ### A request that breaks its encoding -/

/-- It is refused ahead of every other test, as the format tests come first (R162). -/
theorem refusedWith_badOperand {i : Instr} {s : State} {m : Master} {code : Nat} {ops : List Word}
    (hp : requestParts i = some (m, code, ops)) (supply : s.pins.supply = true) (broken : i.wellFormed = false) :
    refusedWith i s m (BitVec.ofNat 8 code) .badOperand := by
  rw [refusedWith, answered, exec_eq_takeRequest hp supply]
  obtain ⟨rest, served, -, -⟩ | ⟨rfl, -⟩ := takeRequest_cases i s m code ops hp
  · rw [served, broken, serve_bad]
  · cases broken

end Sys2Proof.Machine

open Sys2Proof Sys2Proof.Machine

/-- Settles O7: the format tests come ahead of every gate, and each is read in numbers. -/
theorem formatTests : Obligations.FormatTests := by
  refine ⟨fun i s m code ops hp supply broken => refusedWith_badOperand hp supply broken, ?handle,
    ?ticket, fun m b n o l w => optionsFormatOk_iff o, fun m b n k => kindsFormatOk_iff k,
    fun m f => maskFormatOk_iff f, fun m f l => ?enable⟩
  case handle =>
    intro m h x kept
    simp only [List.forall_mem_cons, List.not_mem_nil, false_imp_iff, implies_true, and_true]
    have test : handleFormatOk h = true ↔ kept := handleFormatOk_iff h
    exact ⟨test, test, test, test, test, test, test, test⟩
  case ticket =>
    intro m t
    simp only [List.forall_mem_cons, List.not_mem_nil, false_imp_iff, implies_true, and_true]
    exact ⟨ticketFormatOk_iff t, ticketFormatOk_iff t⟩
  case enable =>
    rw [Instr.wellFormed, Bool.and_eq_true, maskFormatOk_iff, lineFormatOk_iff]

end

section
/-! PROOFS. The edges of LSEL (R157 to R160, R163), and the words of a reply (R164, section 11.4). -/

namespace Sys2Proof.Machine

/-! ### The edges -/

/-- Giving a link unit the state it has changes nothing. -/
theorem State.setLink_link_self (s : State) (m : Master) : s.setLink m (s.link m) = s := by
  simp [State.setLink, State.link]

/-- A fall in IDLE starts a frame with the reply's words to shift out (R158, R159). -/
theorem Link.fall_idle {l : Link} (idle : l.phase = .idle) : l.fall = { l with
    phase := .receiving, buffer := [], wordCount := 0, lateNonzero := false, lselLow := true,
    shiftOut := l.replyWords, ldo := some (firstBit l.replyWords) } := by
  rw [Link.fall, idle]

/-- A frame without a complete word leaves an empty buffer, and the reply slot as it was (R158, R160). -/
theorem Link.received_short (l : Link) {bits : List Bool} (short : bits.length < 16) : l.received bits = { l with
    phase := .idle, buffer := [], wordCount := 0, lateNonzero := false, lselLow := false,
    ldo := none, ldoBits := shiftedOut l.shiftOut (bits.length + 1),
    ldoRead := shiftedOut l.shiftOut bits.length } := by
  simp [Link.received_eq, wordsOfBits_short bits short]

section
variable {s : State} {m : Master}

/-- A fall of LSEL on a powered part is seen by the link unit (R158). -/
theorem exec_lselFall (supplied : s.pins.supply = true) :
    exec (.lselFall m) s = .next (s.setLink m (s.link m).fall) :=
  congrArg Host.Outcome.next (if_pos supplied)

/-- A frame without a complete word is not taken (R160). -/
theorem exec_frameEnd_short {bits : List Bool} (ignored : Nat) (supplied : s.pins.supply = true)
    (receiving : (s.link m).phase = .receiving) (short : bits.length < 16) :
    exec (.frameEnd m ⟨bits, ignored⟩) s = .next (s.setLink m ((s.link m).received bits)) := by
  have rises : exec (.frameEnd m ⟨bits, ignored⟩) s = .next (s.riseLsel m ⟨bits, ignored⟩) := rfl
  rw [rises, State.riseLsel_receiving s m bits ignored supplied receiving, if_pos (wordsOfBits_short bits short)]

/-- A rise in IDLE is left to the link unit, and nothing is taken (R158). -/
theorem exec_frameEnd_idle (ldi : Clocked) (supplied : s.pins.supply = true) (idle : (s.link m).phase = .idle) :
    exec (.frameEnd m ldi) s = .next (s.setLink m ((s.link m).riseIdle ldi)) := by
  have rises : exec (.frameEnd m ldi) s = .next (s.riseLsel m ldi) := rfl
  rw [rises, State.riseLsel, if_pos supplied, State.endFrame, idle]

end

/-! ### The words of a reply -/

theorem Status.code_lt (st : Status) : st.code < 256 := by cases st <;> decide

/-- The header is the status code above the echo (R164). -/
theorem Reply.header_fields (r : Reply) :
    BitVec.ofNat 16 (256 * r.status.code + r.echo.toNat) = BitVec.ofNat 8 r.status.code ++ r.echo := by
  have := r.status.code_lt
  have := r.echo.isLt
  apply BitVec.eq_of_toNat_eq
  rw [toNat_fields, BitVec.toNat_ofNat, BitVec.toNat_ofNat, Nat.mod_eq_of_lt (by omega), Nat.mod_eq_of_lt (by omega)]
  omega

end Sys2Proof.Machine

open Sys2Proof Sys2Proof.Machine

/-- Settles O12, edge by edge, from what the link unit does at each, the bits of words, and the fields of a reply's
header. -/
theorem linkEdges : Obligations.LinkEdges := by
  refine ⟨?fall, fun s m bits ignored supplied receiving short => ?short,
    fun s m bits ignored supplied idle => ⟨fun low => ?voided, fun high => ?noFrame⟩,
    fun words n => ⟨shiftedOut_length words n, shiftedOut_getElem? words n⟩,
    fun bits => ⟨wordsOfBits_length bits, wordsOfBits_getElem? bits⟩, fun r => ?reply, rfl, rfl, rfl⟩
  case fall =>
    intro s m supplied idle words
    rw [exec_lselFall supplied, Link.fall_idle idle]
    rfl
  case short => rw [exec_frameEnd_short ignored supplied receiving short, Link.received_short _ short]
  case voided => rw [exec_frameEnd_idle _ supplied idle, Link.riseIdle, if_pos low]
  case noFrame => rw [exec_frameEnd_idle _ supplied idle, Link.riseIdle, if_neg (by simp [high]), s.setLink_link_self m]
  case reply =>
    refine ⟨_, rfl, ?_⟩
    rw [Reply.words, Reply.header_fields]
    rfl

end

section
/-! PROOFS. No command reads or writes the queue it was taken from, and none stops the block; so a step takes one
command off (log entries 5 and 8). -/

namespace Sys2Proof.Machine

/-! ### The own answers of the requests -/

section
variable (s : State) (m : Master)

@[simp] theorem State.ok_state (results : List Word) : (s.ok results).state = s := rfl
@[simp] theorem State.refuse_state (status : Status) : (s.refuse status).state = s := rfl
@[simp] theorem State.gone_state (code : Nat) : (s.gone code).state = s := rfl

theorem State.gated_pending {gate : Option Status} {rest : Answer} (hr : rest.state.pending = s.pending) :
    (s.gated gate rest).state.pending = s.pending :=
  State.gated_keeps (P := (·.pending = s.pending)) rfl fun _ => hr

theorem State.withHandle_pending (h : Word) (f : RecIdx → Window → Answer)
    (hf : ∀ i w, (f i w).state.pending = s.pending) : (s.withHandle h f).state.pending = s.pending :=
  State.withHandle_keeps (P := (·.pending = s.pending)) rfl fun i w _ => hf i w

theorem State.withWatch_pending (id : Word) (f : WatchIdx → Watch → Answer)
    (hf : ∀ k w, (f k w).state.pending = s.pending) : (s.withWatch m id f).state.pending = s.pending :=
  State.withWatch_keeps (P := (·.pending = s.pending)) rfl fun k w _ _ => hf k w

theorem openAnswer_pending (period : Nat) : (openAnswer m period s).state.pending = s.pending := by
  unfold openAnswer
  split
  · rfl
  · split
    · rfl
    · exact s.setSessionState_pending m _
    · exact s.setSessionState_pending m _

theorem closeAnswer_pending : (closeAnswer m s).state.pending = s.pending := by
  unfold closeAnswer
  split
  · exact s.endSession_pending m _ _ _
  · exact s.setSessionState_pending m _
  · rfl

theorem claimAnswer_pending (c : ClaimOperands) : (claimAnswer m c s).state.pending = s.pending := by
  refine s.gated_pending (s.gated_pending ?_)
  split
  · exact s.issue_pending _ _
  · unfold State.claimWaits
    split
    · split
      · exact s.enqueue_pending _
      · rfl
    · split <;> rfl

theorem renewWindow_pending (ticks : Nat) (i : RecIdx) (w : Window) :
    (renewWindow m ticks s i w).state.pending = s.pending := by
  unfold renewWindow
  split
  · rfl
  · split
    · rfl
    · split
      · exact s.setWindow_pending i _
      · rfl
      · rfl

theorem releaseWindow_pending (i : RecIdx) (w : Window) : (releaseWindow m s i w).state.pending = s.pending := by
  unfold releaseWindow
  split
  · rfl
  · split
    · rfl
    · simp

theorem downgradeWindow_pending (i : RecIdx) (w : Window) :
    (downgradeWindow m s i w).state.pending = s.pending := by
  unfold downgradeWindow
  split
  · rfl
  · split
    · rfl
    · simp

theorem upgradeWindow_pending (i : RecIdx) (w : Window) : (upgradeWindow m s i w).state.pending = s.pending := by
  unfold upgradeWindow
  split
  · rfl
  · split
    · rfl
    · split
      · rfl
      · split
        · rfl
        · simp

theorem listAnswer_pending (start target : Word) : (listAnswer m start target s).state.pending = s.pending := by
  unfold listAnswer
  split
  · rfl
  · split
    · rfl
    · split <;> rfl

theorem cancelAnswer_pending (t : Word) : (cancelAnswer m t s).state.pending = s.pending := by
  unfold cancelAnswer
  split
  · simp
  · rfl
  · rfl
  · rfl

theorem ticketAnswer_pending (t : Word) : (ticketAnswer m t s).state.pending = s.pending := by
  unfold ticketAnswer
  split <;> rfl

theorem standAnswer_pending (i : RecIdx) (w : Window) : (standAnswer m s i w).state.pending = s.pending := by
  unfold standAnswer
  split
  · rfl
  · split
    · rfl
    · split
      · rfl
      · split
        · rfl
        · split
          · rfl
          · simp

theorem unstandAnswer_pending (i : RecIdx) (w : Window) : (unstandAnswer m s i w).state.pending = s.pending := by
  unfold unstandAnswer
  split
  · rfl
  · split
    · rfl
    · rfl
    · split
      · rfl
      · simp

theorem watchSetAnswer_pending (base size : Nat) (kinds : WatchKinds) :
    (watchSetAnswer m base size kinds s).state.pending = s.pending := by
  unfold watchSetAnswer
  split
  · rfl
  · split
    · rfl
    · split <;> rfl

theorem quotaAnswer_pending (target : Word) (quota allowance : Nat) :
    (quotaAnswer target quota allowance s).state.pending = s.pending := by
  unfold quotaAnswer
  split
  · rfl
  · split
    · rfl
    · split <;> rfl

theorem revokeWindow_pending (grace : Nat) (i : RecIdx) (w : Window) :
    (revokeWindow grace s i w).state.pending = s.pending := by
  unfold revokeWindow
  split <;> simp

theorem evictAnswer_pending (target : Word) : (evictAnswer target s).state.pending = s.pending := by
  unfold evictAnswer
  split
  · rfl
  · next t _ =>
    unfold evictTarget
    split
    · exact s.endSession_pending t _ _ _
    · exact s.setSessionState_pending t _
    · rfl

theorem bandAnswer_pending (value grace : Nat) : (bandAnswer value grace s).state.pending = s.pending := by
  unfold bandAnswer
  split
  · rfl
  · unfold bandValueAnswer
    split
    · simp
    · split
      · simp
      · split <;> rfl

theorem purgeAnswer_pending (slot : Word) : (purgeAnswer slot s).state.pending = s.pending := by
  unfold purgeAnswer
  split
  · rfl
  · split
    · simp [purgeSlot]
    · rfl

/-! ### Requests and frames -/

/-- The renewal ahead of an answer and the reply after it leave the queue. -/
theorem serve_pending {m : Master} {code : Byte} {ok : Bool} {gate : State → Option Status} {rest : State → Answer}
    (hr : ∀ u, (rest u).state.pending = u.pending) :
    (serve m code ok (fun u => u.gated (gate u) (rest u)) s).pending = s.pending :=
  serve_keeps (P := (·.pending = s.pending)) (s.renewSession_pending m)
    (fun renewed => (State.gated_pending _ (hr _)).trans renewed)
    fun u r hu => (u.placeReply_pending m r).trans hu

theorem State.beginStart_pending (cause : StartCause) (hold : Bool) :
    (s.beginStart cause hold).pending = s.pending := s.breakPhase_pending

theorem State.softStart_pending : s.softStart.pending = s.pending := s.beginStart_pending .soft false

theorem takeRestart_pending : (takeRestart m s).pending = s.pending := by
  unfold takeRestart
  split
  · exact serve_pending s fun _ => rfl
  · exact (State.softStart_pending _).trans (s.renewSession_pending m)

end

theorem takeRequest_pending (i : Instr) (s : State) : (takeRequest i s).pending = s.pending := by
  cases i with dsimp only [takeRequest]
  | nop | status | keepalive | noticeRead | noticeAck | noticeEnable => exact serve_pending s fun _ => rfl
  | openSession m => exact serve_pending s fun u => openAnswer_pending u m _
  | close m => exact serve_pending s fun u => closeAnswer_pending u m
  | claim m => exact serve_pending s fun u => claimAnswer_pending u m _
  | renew m h ticks =>
    refine serve_pending s fun u => ?_
    unfold renewAnswer
    split
    · rfl
    · exact u.withHandle_pending h _ (renewWindow_pending u m _)
  | release m h => exact serve_pending s fun u => u.withHandle_pending h _ (releaseWindow_pending u m)
  | downgrade m h => exact serve_pending s fun u => u.withHandle_pending h _ (downgradeWindow_pending u m)
  | upgrade m h => exact serve_pending s fun u => u.withHandle_pending h _ (upgradeWindow_pending u m)
  | query m h => exact serve_pending s fun u => u.withHandle_pending h _ fun i _ => u.setWindow_pending i _
  | list m => exact serve_pending s fun u => listAnswer_pending u m _ _
  | cancel m => exact serve_pending s fun u => cancelAnswer_pending u m _
  | ticket m => exact serve_pending s fun u => ticketAnswer_pending u m _
  | stand m h => exact serve_pending s fun u => u.withHandle_pending h _ (standAnswer_pending u m)
  | unstand m h => exact serve_pending s fun u => u.withHandle_pending h _ (unstandAnswer_pending u m)
  | watchSet m => exact serve_pending s fun u => watchSetAnswer_pending u m _ _ _
  | watchClear m id | watchRead m id => exact serve_pending s fun u => u.withWatch_pending m id _ fun _ _ => rfl
  | quota => exact serve_pending s fun u => quotaAnswer_pending u _ _ _
  | revoke m h grace =>
    refine serve_pending s fun u => ?_
    unfold revokeAnswer
    split
    · rfl
    · exact u.withHandle_pending h _ (revokeWindow_pending u _)
  | evict => exact serve_pending s fun u => evictAnswer_pending u _
  | restart m => exact takeRestart_pending s m
  | band => exact serve_pending s fun u => bandAnswer_pending u _ _
  | purge => exact serve_pending s fun u => purgeAnswer_pending u _

section
variable (s : State)

theorem State.takeFrame_pending (m : Master) : (s.takeFrame m).pending = s.pending := by
  simp only [State.takeFrame]
  split
  · exact s.placeReply_pending m _
  · simp
  · simp
  · exact takeRequest_pending _ s

theorem State.riseLsel_pending (m : Master) (ldi : Clocked) : (s.riseLsel m ldi).pending = s.pending := by
  unfold State.riseLsel
  split
  · simp only [State.endFrame]
    split
    · rfl
    · split
      · rfl
      · exact State.takeFrame_pending _ m
  · rfl

/-! ### The check port, the starts and the start-up read -/

theorem State.strobe_pending (a : Access) : (s.strobe a).pending = s.pending := by
  simp only [State.strobe]
  split
  · rfl
  · simp

theorem State.releaseStrobe_pending : s.releaseStrobe.pending = s.pending := by
  simp only [State.releaseStrobe]
  split <;> rfl

theorem State.endHold_pending : s.endHold.pending = s.pending := by
  simp only [State.endHold]
  split
  · split <;> rfl
  · rfl

theorem State.assertReset_pending : s.assertReset.pending = s.pending := by
  simp only [State.assertReset]
  split
  · exact State.beginStart_pending _ .line false
  · rfl

theorem State.releaseReset_pending : s.releaseReset.pending = s.pending := by
  simp only [State.releaseReset]
  split <;> rfl

theorem State.loseSupply_pending : s.loseSupply.pending = s.pending := s.breakPhase_pending

theorem State.readBandCell_pending : s.readBandCell.pending = s.pending := by
  unfold State.readBandCell
  split
  · split <;> rfl
  all_goals rfl

theorem State.endStarting_pending : s.endStarting.pending = s.pending := by
  obtain ⟨-, -, -, -, -, -, -, -, -, -, -, concluded⟩ := s.concluded_frame
  rw [s.endStarting_eq_kickEngine, State.kickEngine_pending, concluded]

theorem State.readSlot_pending (maint : Bool) : (s.readSlot maint).pending = s.pending := by
  unfold State.readSlot
  split
  · next k _ =>
    have decided : ((s.setPins { s.pins with maint := maint }).restoreSlot k).pending = s.pending := by simp
    simp only []
    split
    · exact decided
    · exact (State.endStarting_pending _).trans decided
  all_goals rfl

/-! ### The band phases -/

theorem State.bandErased_pending : s.bandErased.pending = s.pending := by
  unfold State.bandErased
  split <;> rfl

theorem State.bandProgrammed_pending : s.bandProgrammed.pending = s.pending := by
  unfold State.bandProgrammed
  split
  · simp only []
    split <;> simp
  all_goals rfl

end

/-! ### Every command and every step -/

/-- A command run under the supply that leaves the queue answers with it, whatever the supply. -/
theorem whenPowered_answers_pending {f : State → State} {s : State} (hf : (f s).pending = s.pending) :
    ∃ t, whenPowered f s = .next t ∧ t.pending = s.pending := by
  obtain ⟨t, answers⟩ := whenPowered_answers f s
  exact ⟨t, answers, whenPowered_keeps (P := (·.pending = s.pending)) rfl (fun _ => hf) answers⟩

/-- Every command answers a next state and leaves the queue to the step. -/
theorem exec_answers (c : Instr) (s : State) : ∃ t, exec c s = .next t ∧ t.pending = s.pending := by
  cases hr : requestParts c with
  | some parts =>
    rw [exec_request c s (by simp [hr])]
    exact whenPowered_answers_pending (takeRequest_pending c s)
  | none =>
    cases c with
    | frameEnd link ldi => exact ⟨_, rfl, s.riseLsel_pending link ldi⟩
    | lselFall link => exact ⟨_, rfl, s.fallLsel_pending link⟩
    | checkStrobe cmas cadr cspan cwr =>
      exact whenPowered_answers_pending (f := (·.strobe ⟨cmas, cadr, cspan, cwr⟩)) (s.strobe_pending _)
    | checkRelease => exact whenPowered_answers_pending s.releaseStrobe_pending
    | tick => exact whenPowered_answers_pending s.advance_pending
    | lapse m => exact whenPowered_answers_pending (s.lapse_pending m)
    | leaseExpiry i => exact whenPowered_answers_pending (s.expireLease_pending i)
    | leaselowWarning i => exact whenPowered_answers_pending (f := (·.warnLease i)) (s.warnLease_pending i)
    | drainEnd i => exact whenPowered_answers_pending (f := (·.endDrain i)) (s.endDrain_pending i)
    | waitExpiry m ticket => exact whenPowered_answers_pending (s.expireWait_pending m ticket)
    | slotEraseDone => exact whenPowered_answers_pending s.slotErased_pending
    | slotProgramDone => exact whenPowered_answers_pending s.slotProgrammed_pending
    | clearDone => exact whenPowered_answers_pending s.slotCleared_pending
    | bandEraseDone => exact whenPowered_answers_pending s.bandErased_pending
    | bandProgramDone => exact whenPowered_answers_pending s.bandProgrammed_pending
    | bandCellRead => exact whenPowered_answers_pending s.readBandCell_pending
    | slotRead maint => exact whenPowered_answers_pending (f := (·.readSlot maint)) (s.readSlot_pending maint)
    | powerStart => exact ⟨_, rfl, s.beginStart_pending .power true⟩
    | powerOnHoldEnd => exact whenPowered_answers_pending s.endHold_pending
    | lineStart => exact ⟨_, rfl, s.assertReset_pending⟩
    | resetRelease => exact ⟨_, rfl, s.releaseReset_pending⟩
    | supplyLoss => exact whenPowered_answers_pending s.loseSupply_pending
    | lossOfRetention slot image => exact ⟨_, rfl, s.loseRetention_pending slot image⟩
    | _ => cases hr

theorem step_of_empty {s : State} (empty : s.pending = []) : step s = .next s := by
  rw [step, empty]

theorem step_of_front {s : State} {c : Instr} {rest : List Instr} (front : s.pending = c :: rest) :
    step s = exec c { s with pending := rest } := by
  rw [step, front]

end Sys2Proof.Machine

open Sys2Proof Sys2Proof.Machine

/-- Settles O1: the command given is the one at the front. -/
theorem stepRunsFrontCommand : Obligations.StepRunsFrontCommand := fun _ _ _ => step_of_front rfl

/-- Settles O2: on an empty queue the block idles; otherwise the step has taken the front command off, and the command
answers and leaves the rest as it finds it. -/
theorem everyStepAnswers : Obligations.EveryStepAnswers := by
  intro s
  cases queue : s.pending with
  | nil => exact ⟨s, step_of_empty queue, queue, fun _ => rfl⟩
  | cons c rest =>
    obtain ⟨t, answers, left⟩ := exec_answers c { s with pending := rest }
    exact ⟨t, (step_of_front queue).trans answers, left, nofun⟩

end
